-- ==== Sys2Proof/Word.lean ====
section
/-! DEFINITION. The plain words of the model: a byte of a frame, a volume in millilitres, an instant of the time base. -/

namespace Sys2Proof

/-- One byte of a frame's data (spec/09, R160; spec/10, R192). -/
abbrev Byte := BitVec 8

/-- A volume in mL (spec/00, 6.2). Volume arithmetic is exact integer arithmetic (6.3; entry 9). -/
abbrev Volume := Int

/-- An instant or an interval of the part's time base, in microseconds (spec/00, 6.7). -/
abbrev Micros := Nat

end Sys2Proof
end

