-- ==== Sys2Proof/Syntax.lean ====
section
/-! DEFINITION. The names and data that commands carry, the command frames of section 10.7 as `Command`, and
`Instr`: one constructor per row of the operation table. -/

namespace Sys2Proof

/-- The two delivery lines (spec/00, 3.2). -/
inductive LineId where
  | line1
  | line2
  deriving DecidableEq, Repr

/-- The two CAN FD segments (spec/00, 2.1). -/
inductive Link where
  | cab
  | field
  deriving DecidableEq, Repr

/-- The two channels of a pulser (spec/01). -/
inductive Channel where
  | a
  | b
  deriving DecidableEq, Repr

/-- An edge at a pulser input (R1). -/
inductive PulserEdge where
  | rising (channel : Channel)
  | falling (channel : Channel)
  deriving DecidableEq, Repr

/-- A CAN FD frame: identifier and its format, frame format with bit-rate switch, data (R160). -/
structure Frame where
  extended : Bool
  ident : Nat
  fd : Bool
  brs : Bool
  data : List Byte
  deriving DecidableEq, Repr

/-- A product number 1 to 8, held as its index 0 to 7 (R40). -/
abbrev ProductNo := Fin 8

/-- A compartment number 1 to 6, held as its index 0 to 5 (R43). -/
abbrev CompartmentNo := Fin 6

/-- The sale basis of a product (R32, R40). -/
inductive Basis where
  | gross
  | net
  deriving DecidableEq, Repr

/-- The kinds of record and of reservation (R117). -/
inductive RecordKind where
  | delivery
  | flush
  | calibration
  deriving DecidableEq, Repr

/-- The stop causes, in the order of their codes and fault set bits (R192; targets in R85). -/
inductive StopCause where
  | preset
  | volumeLimit
  | compartmentLow
  | operatorStop
  | operatorPause
  | noFlow
  | airTimeout
  | pulserFault
  | reverseFlow
  | tempLost
  | emergencyStop
  | valveFault
  | powerLoss
  deriving DecidableEq, Repr

/-- The stop targets, in the order of their codes, which is also their order of severity (R85, R192). -/
inductive StopTarget where
  | paused
  | finished
  | suspended
  deriving DecidableEq, Repr

/-- A fault set: bit n is the stop cause with code n; each cause is held at most once (R69, R192). -/
abbrev FaultSet := BitVec 13

/-- The nine delivery flags (R69). -/
structure Flags where
  calUnlocked : Bool
  tempHeld : Bool
  tempAbsent : Bool
  interrupted : Bool
  clockUnset : Bool
  airSeen : Bool
  airUnmonitored : Bool
  lateFlow : Bool
  vcfClamped : Bool
  deriving DecidableEq, Repr

/-- The two credentials of the metrology lock (R151). -/
inductive CredentialKind where
  | fleet
  | inspector
  deriving DecidableEq, Repr

/-- A calibration item named by a selector that fits R138. -/
inductive ItemSel where
  | kFactor (l : LineId)
  | bandCount (l : LineId)
  | band (l : LineId) (index : Fin 6)
  | integrityLimit (l : LineId)
  | reverseLimit (l : LineId)
  | hoseVolume (l : LineId)
  | valveId (l : LineId)
  | probeId (l : LineId)
  | airId (l : LineId)
  | pumpStopId
  | defined (p : ProductNo)
  | alpha (p : ProductNo)
  | beta (p : ProductNo)
  | tref (p : ProductNo)
  | basis (p : ProductNo)
  deriving DecidableEq, Repr

/-- What a CALIBRATION record names as its item (R124). -/
inductive RecordItem where
  | item (sel : ItemSel)
  | credential (which : CredentialKind)
  | lock
  deriving DecidableEq, Repr

/-- A value in a CALIBRATION record: an integer item, a band entry, or the state of credentials and level
(R124, R192). -/
inductive CalValue where
  | int (v : Int)
  | band (lower : Nat) (correction : Int) (used : Bool)
  | lock (inspectorSet fleetSet strict : Bool)
  deriving DecidableEq, Repr

/-- The stored fields of a DELIVERY or FLUSH record (R123); sequence, kind and state stand in the directory. -/
structure DeliveryRecord where
  ticket : Option Nat
  line : LineId
  order : Option Nat
  customer : Option Nat
  product : ProductNo
  compartment : CompartmentNo
  startTime : Option Nat
  endTime : Option Nat
  gross : Volume
  net : Volume
  basis : Basis
  billed : Volume
  unbilled : Volume
  average : Option Int
  price : Option Nat
  amount : Option Nat
  preset : Option Volume
  stopCause : Option StopCause
  faults : FaultSet
  flags : Flags
  reversePulses : Nat
  integrityErrors : Nat
  unattendedBefore : Volume
  eventCount : Nat
  deriving DecidableEq, Repr

/-- The stored fields of a CALIBRATION record (R124). `credential` absent is NONE. -/
structure CalibrationRecord where
  newCount : Nat
  time : Option Nat
  item : RecordItem
  oldValue : CalValue
  newValue : CalValue
  credential : Option CredentialKind
  deriving DecidableEq, Repr

/-- The two shapes of record contents (spec/07, 7.3). -/
inductive Contents where
  | delivery (d : DeliveryRecord)
  | calibration (c : CalibrationRecord)
  deriving DecidableEq, Repr

/-- The fields of a record as bits in the journal store, in the layout of its read-out (R192): the presence mask, and the
fields of part 1 and of part 2 with byte 0 lowest. A CALIBRATION record has the low 12 and the low 16 bytes. -/
structure RawFields where
  mask : BitVec 16
  first : BitVec 192
  second : BitVec 408
  deriving DecidableEq, Repr

/-- The stored fields of a record: as its write built them, or as a failure of the storage medium left them (R126,
R128). -/
inductive StoredFields where
  | written (c : Contents)
  | changed (f : RawFields)
  deriving DecidableEq, Repr

/-- What a failure of the storage medium leaves of a record in the journal store beside its directory entry: its fields,
and the check value stored with them (R117, R126, R128). -/
structure StoredContents where
  fields : RawFields
  check : Nat
  deriving DecidableEq, Repr

/-- A command frame's code with its parameters, in the order of the table of section 10.7. A parameter is the
number its bytes hold: its owner judges it. -/
inductive Command where
  | arm (line order compartment : Nat)
  | armFlush (line compartment : Nat)
  | disarm (line : Nat)
  | start (line : Nat)
  | pause (line : Nat)
  | resume (line : Nat)
  | stop (line : Nat)
  | endDelivery (line : Nat)
  | emergencyStop
  | readLineStatus (line : Nat)
  | readTotalizers (line : Nat)
  | loadOrder (order product : Nat) (preset : Int) (price customer : Nat)
  | removeOrder (order : Nat)
  | readOrder (position : Nat)
  | loadCompartment (compartment product : Nat) (volume reserve : Int)
  | readCompartment (compartment : Nat)
  | readProduct (product : Nat)
  | readRecord (sequence : Nat)
  | releaseThrough (sequence : Nat)
  | readJournalState
  | readCalibrationIdentity
  | readCalibrationItem (scope kind band : Nat)
  | writeCalibrationItem (quoted scope kind band : Nat) (value : BitVec 64)
  | unlock (kind : Nat) (credential : BitVec 128)
  | lock
  | setCredential (kind : Nat) (credential : BitVec 128) (level : Nat)
  | removeLock
  | freeze
  | writePassEntry (index direction matchValue mask action gate persist : Nat)
  | deletePassEntry (index : Nat)
  | readPassEntry (index : Nat)
  | readForwardingCounters
  | clearForwardingCounters
  | setTime (time : Nat)
  | writeSetting (setting line : Nat) (value : Int) (persist : Nat)
  | readSetting (setting line : Nat)
  | restoreDefaults
  | readDeviceStatus
  | clearCondition (rank : Nat)
  | park
  | restart
  deriving DecidableEq, Repr

/-- The commands of the block: one constructor per row of the operation table. An event of the time base and an
edge carry the instant at which they are taken (entry 4). A command frame carries its tag. -/
inductive Instr where
  | edgeEvent (l : LineId) (e : PulserEdge) (t : Micros)
  | periodTimerOverflow (l : LineId) (t : Micros)
  | meteringTick (l : LineId) (t : Micros)
  | temperatureAgeExpiry (l : LineId) (t : Micros)
  | noFlowTimerExpiry (l : LineId) (t : Micros)
  | airClearTimerExpiry (l : LineId) (t : Micros)
  | airHoldTimerExpiry (l : LineId) (t : Micros)
  | airSilenceExpiry (l : LineId) (t : Micros)
  | reportTimerExpiry (l : LineId) (t : Micros)
  | relockTimerExpiry (t : Micros)
  | confirmationTimerExpiry (l : LineId) (t : Micros)
  | retryTimerExpiry (l : LineId) (t : Micros)
  | fieldFrameArrival (f : Frame)
  | cabFrameArrival (f : Frame)
  | fieldPortTake
  | cabPortTake
  | transmissionCompletion (k : Link)
  | busOff (k : Link)
  | busOffRecovery (k : Link)
  | wakeDelayEnd (t : Micros)
  | writeCompletion
  | powerFail
  | powerFailRelease
  | supplyFailure (betweenStores : Bool)
  | powerOn
  | arm (tag line order compartment : Nat)
  | armFlush (tag line compartment : Nat)
  | disarm (tag line : Nat)
  | start (tag line : Nat)
  | resume (tag line : Nat)
  | pause (tag line : Nat)
  | stop (tag line : Nat)
  | emergencyStop (tag : Nat)
  | endDelivery (tag line : Nat)
  | readLineStatus (tag line : Nat)
  | readTotalizers (tag line : Nat)
  | loadOrder (tag order product : Nat) (preset : Int) (price customer : Nat)
  | removeOrder (tag order : Nat)
  | readOrder (tag position : Nat)
  | loadCompartment (tag compartment product : Nat) (volume reserve : Int)
  | readCompartment (tag compartment : Nat)
  | readProduct (tag product : Nat)
  | readRecord (tag sequence : Nat)
  | releaseThrough (tag sequence : Nat)
  | readJournalState (tag : Nat)
  | readCalibrationIdentity (tag : Nat)
  | readCalibrationItem (tag scope kind band : Nat)
  | writeCalibrationItem (tag quoted scope kind band : Nat) (value : BitVec 64)
  | unlock (tag kind : Nat) (credential : BitVec 128)
  | lock (tag : Nat)
  | setCredential (tag kind : Nat) (credential : BitVec 128) (level : Nat)
  | removeLock (tag : Nat)
  | freeze (tag : Nat)
  | writePassEntry (tag index direction matchValue mask action gate persist : Nat)
  | deletePassEntry (tag index : Nat)
  | readPassEntry (tag index : Nat)
  | readForwardingCounters (tag : Nat)
  | clearForwardingCounters (tag : Nat)
  | setTime (tag time : Nat)
  | writeSetting (tag setting line : Nat) (value : Int) (persist : Nat)
  | readSetting (tag setting line : Nat)
  | restoreDefaults (tag : Nat)
  | readDeviceStatus (tag : Nat)
  | clearCondition (tag rank : Nat)
  | park (tag : Nat)
  | restart (tag : Nat)
  | storageMediumFailure (sequence : Nat) (contents : StoredContents)
  deriving DecidableEq, Repr

end Sys2Proof
end

