-- ==== Sys2Proof/Config.lean ====
section
/-! DEFINITION. The free values: what the manual leaves open about a value, with no body, so that a claim
holds whatever the value is. Nothing else of the part is configured: its settings are state. -/

namespace Sys2Proof.Config

/-- What a signed 16-bit field shows for a value outside its range, where no rule states it
(average temperature of a record, R37 and R192). DESIGN CHOICE, entry 12: free. -/
opaque beyond16 : Int → BitVec 16

/-- What a signed 32-bit volume field shows for a value outside its range, where no rule states a clamp
(END response, record read-out; R80, R192). DESIGN CHOICE, entry 12: free. -/
opaque beyond32 : Int → BitVec 32

/-- What a signed 64-bit field shows for a value outside its range (READ TOTALIZERS; R33, R192).
DESIGN CHOICE, entry 12: free. -/
opaque beyond64 : Int → BitVec 64

/-- The 32-bit reverse pulse count of a delivery when the exact sum leaves 32 bits: R35 adds, R123 gives 32
bits, and no rule says that it saturates. DESIGN CHOICE, entry 26: free. -/
opaque reversePulsesBeyond : Nat → BitVec 32

/-- The check value over the stored fields of a record: its sequence number, its kind and the bytes of its other fields as
they stand in the store (R123, R124, R126). The spec gives neither the algorithm nor the width. DESIGN CHOICE, entry 11:
free. -/
opaque checkValue : Nat → RecordKind → List Byte → Nat

end Sys2Proof.Config
end

