-- ==== Sys2Proof/WellFormed.lean ====
section
/-! DEFINITION. Which commands can be sent: each parameter fits the width of its kind (spec/10, R192), and a frame
fits the identifier formats and data lengths of R160. -/

namespace Sys2Proof

/-- Fits 1 byte (R192, widths). -/
def isByte (n : Nat) : Bool := n < 256

/-- Fits 4 bytes, unsigned (R192, widths). -/
def isWord (n : Nat) : Bool := n < 4294967296

/-- Fits 4 bytes, signed (R192, widths). -/
def isSigned (x : Int) : Bool := -2147483648 ≤ x && x < 2147483648

/-- The parameters of a command frame fit their widths (R192). -/
def Command.wellFormed : Command → Bool
  | .arm line order compartment => isByte line && isWord order && isByte compartment
  | .armFlush line compartment => isByte line && isByte compartment
  | .disarm line => isByte line
  | .start line => isByte line
  | .pause line => isByte line
  | .resume line => isByte line
  | .stop line => isByte line
  | .endDelivery line => isByte line
  | .emergencyStop => true
  | .readLineStatus line => isByte line
  | .readTotalizers line => isByte line
  | .loadOrder order product preset price customer => isWord order && isByte product && isSigned preset && isWord price && isWord customer
  | .removeOrder order => isWord order
  | .readOrder position => isByte position
  | .loadCompartment compartment product volume reserve => isByte compartment && isByte product && isSigned volume && isSigned reserve
  | .readCompartment compartment => isByte compartment
  | .readProduct product => isByte product
  | .readRecord sequence => isWord sequence
  | .releaseThrough sequence => isWord sequence
  | .readJournalState => true
  | .readCalibrationIdentity => true
  | .readCalibrationItem scope kind band => isByte scope && isByte kind && isByte band
  | .writeCalibrationItem quoted scope kind band _ => isWord quoted && isByte scope && isByte kind && isByte band
  | .unlock kind _ => isByte kind
  | .lock => true
  | .setCredential kind _ level => isByte kind && isByte level
  | .removeLock => true
  | .freeze => true
  | .writePassEntry index direction matchValue mask action gate persist => isByte index && isByte direction && isWord matchValue && isWord mask && isByte action && isByte gate && isByte persist
  | .deletePassEntry index => isByte index
  | .readPassEntry index => isByte index
  | .readForwardingCounters => true
  | .clearForwardingCounters => true
  | .setTime time => isWord time
  | .writeSetting setting line value persist => isByte setting && isByte line && isSigned value && isByte persist
  | .readSetting setting line => isByte setting && isByte line
  | .restoreDefaults => true
  | .readDeviceStatus => true
  | .clearCondition rank => isByte rank
  | .park => true
  | .restart => true

/-- A frame that either link can carry: a 29-bit or an 11-bit identifier and 0 to 64 bytes of data (R160). -/
def Frame.wellFormed (f : Frame) : Bool :=
  f.ident < (if f.extended then 536870912 else 2048) && f.data.length ≤ 64

/-- The command frame that a row of section 10.7 stands for, with its tag; the other rows are events. -/
def Instr.command? : Instr → Option (Nat × Command)
  | .edgeEvent _ _ _ => none
  | .periodTimerOverflow _ _ => none
  | .meteringTick _ _ => none
  | .temperatureAgeExpiry _ _ => none
  | .noFlowTimerExpiry _ _ => none
  | .airClearTimerExpiry _ _ => none
  | .airHoldTimerExpiry _ _ => none
  | .airSilenceExpiry _ _ => none
  | .reportTimerExpiry _ _ => none
  | .relockTimerExpiry _ => none
  | .confirmationTimerExpiry _ _ => none
  | .retryTimerExpiry _ _ => none
  | .fieldFrameArrival _ => none
  | .cabFrameArrival _ => none
  | .fieldPortTake => none
  | .cabPortTake => none
  | .transmissionCompletion _ => none
  | .busOff _ => none
  | .busOffRecovery _ => none
  | .wakeDelayEnd _ => none
  | .writeCompletion => none
  | .powerFail => none
  | .powerFailRelease => none
  | .supplyFailure _ => none
  | .powerOn => none
  | .arm tag line order compartment => some (tag, .arm line order compartment)
  | .armFlush tag line compartment => some (tag, .armFlush line compartment)
  | .disarm tag line => some (tag, .disarm line)
  | .start tag line => some (tag, .start line)
  | .resume tag line => some (tag, .resume line)
  | .pause tag line => some (tag, .pause line)
  | .stop tag line => some (tag, .stop line)
  | .emergencyStop tag => some (tag, .emergencyStop)
  | .endDelivery tag line => some (tag, .endDelivery line)
  | .readLineStatus tag line => some (tag, .readLineStatus line)
  | .readTotalizers tag line => some (tag, .readTotalizers line)
  | .loadOrder tag order product preset price customer => some (tag, .loadOrder order product preset price customer)
  | .removeOrder tag order => some (tag, .removeOrder order)
  | .readOrder tag position => some (tag, .readOrder position)
  | .loadCompartment tag compartment product volume reserve => some (tag, .loadCompartment compartment product volume reserve)
  | .readCompartment tag compartment => some (tag, .readCompartment compartment)
  | .readProduct tag product => some (tag, .readProduct product)
  | .readRecord tag sequence => some (tag, .readRecord sequence)
  | .releaseThrough tag sequence => some (tag, .releaseThrough sequence)
  | .readJournalState tag => some (tag, .readJournalState)
  | .readCalibrationIdentity tag => some (tag, .readCalibrationIdentity)
  | .readCalibrationItem tag scope kind band => some (tag, .readCalibrationItem scope kind band)
  | .writeCalibrationItem tag quoted scope kind band value => some (tag, .writeCalibrationItem quoted scope kind band value)
  | .unlock tag kind credential => some (tag, .unlock kind credential)
  | .lock tag => some (tag, .lock)
  | .setCredential tag kind credential level => some (tag, .setCredential kind credential level)
  | .removeLock tag => some (tag, .removeLock)
  | .freeze tag => some (tag, .freeze)
  | .writePassEntry tag index direction matchValue mask action gate persist => some (tag, .writePassEntry index direction matchValue mask action gate persist)
  | .deletePassEntry tag index => some (tag, .deletePassEntry index)
  | .readPassEntry tag index => some (tag, .readPassEntry index)
  | .readForwardingCounters tag => some (tag, .readForwardingCounters)
  | .clearForwardingCounters tag => some (tag, .clearForwardingCounters)
  | .setTime tag time => some (tag, .setTime time)
  | .writeSetting tag setting line value persist => some (tag, .writeSetting setting line value persist)
  | .readSetting tag setting line => some (tag, .readSetting setting line)
  | .restoreDefaults tag => some (tag, .restoreDefaults)
  | .readDeviceStatus tag => some (tag, .readDeviceStatus)
  | .clearCondition tag rank => some (tag, .clearCondition rank)
  | .park tag => some (tag, .park)
  | .restart tag => some (tag, .restart)
  | .storageMediumFailure _ _ => none

/-- A row's operands are ones that the environment can send. -/
def Instr.wellFormed (i : Instr) : Bool :=
  match i.command? with
  | some (tag, c) => isByte tag && c.wellFormed
  | none =>
    match i with
    | .fieldFrameArrival f => f.wellFormed
    | .cabFrameArrival f => f.wellFormed
    | .storageMediumFailure sequence _ => isWord sequence
    | _ => true

end Sys2Proof
end

