-- ==== Sys2Proof/Decode.lean ====
section
/-! DEFINITION. From bits to commands: the little-endian fields of frames, the command frames of section 10.7
(code, parameters, and the frame that spells a command), and the word decoder, which reads nothing, because the
operation table gives no row a bit. -/

namespace Sys2Proof

/-! ### Fields (R192: little-endian, widths, signed fields) -/

/-- The value of little-endian bytes. -/
def leNat : List Byte → Nat
  | [] => 0
  | b :: bs => b.toNat + 256 * leNat bs

/-- The low `width` bytes of a value, little-endian. -/
def leBytes : (width value : Nat) → List Byte
  | 0, _ => []
  | k + 1, n => BitVec.ofNat 8 n :: leBytes k (n / 256)

/-- A field of `bits` bits read as a signed value. -/
def toSigned (bits n : Nat) : Int :=
  if n < 2 ^ (bits - 1) then n else (n : Int) - 2 ^ bits

/-- The field of `bits` bits that holds a signed value in range. -/
def ofSigned (bits : Nat) (x : Int) : Nat := (x % 2 ^ bits).toNat

/-- The values of consecutive fields of the given widths; none when the bytes are too few. Further bytes are
ignored (R178). -/
def readFields : (widths : List Nat) → List Byte → Option (List Nat)
  | [], _ => some []
  | w :: ws, bytes =>
    if bytes.length < w then none
    else (readFields ws (bytes.drop w)).map (leNat (bytes.take w) :: ·)

/-- Consecutive fields of the given widths. -/
def writeFields : (widths values : List Nat) → List Byte
  | w :: ws, v :: vs => leBytes w v ++ writeFields ws vs
  | _, _ => []

/-! ### Command frames (R192, the table of command parameters) -/

/-- The code of a command. -/
def Command.code : Command → Nat
  | .arm _ _ _ => 0x10
  | .armFlush _ _ => 0x11
  | .disarm _ => 0x12
  | .start _ => 0x13
  | .pause _ => 0x14
  | .resume _ => 0x15
  | .stop _ => 0x16
  | .endDelivery _ => 0x17
  | .emergencyStop => 0x18
  | .readLineStatus _ => 0x19
  | .readTotalizers _ => 0x1A
  | .loadOrder _ _ _ _ _ => 0x20
  | .removeOrder _ => 0x21
  | .readOrder _ => 0x22
  | .loadCompartment _ _ _ _ => 0x28
  | .readCompartment _ => 0x29
  | .readProduct _ => 0x2A
  | .readRecord _ => 0x30
  | .releaseThrough _ => 0x31
  | .readJournalState => 0x32
  | .readCalibrationIdentity => 0x40
  | .readCalibrationItem _ _ _ => 0x41
  | .writeCalibrationItem _ _ _ _ _ => 0x42
  | .unlock _ _ => 0x43
  | .lock => 0x44
  | .setCredential _ _ _ => 0x45
  | .removeLock => 0x46
  | .freeze => 0x47
  | .writePassEntry _ _ _ _ _ _ _ => 0x50
  | .deletePassEntry _ => 0x51
  | .readPassEntry _ => 0x52
  | .readForwardingCounters => 0x53
  | .clearForwardingCounters => 0x54
  | .setTime _ => 0x60
  | .writeSetting _ _ _ _ => 0x61
  | .readSetting _ _ => 0x62
  | .restoreDefaults => 0x63
  | .readDeviceStatus => 0x64
  | .clearCondition _ => 0x65
  | .park => 0x66
  | .restart => 0x67

/-- The widths of a code's parameters (R192); none for a byte that is no command code. DESIGN CHOICE, entry 42: the loaded
volume and the reserve of LOAD COMPARTMENT, which R192 names no width for, take 4 bytes, signed. -/
def commandWidths : Nat → Option (List Nat)
  | 0x10 => some [1, 4, 1]
  | 0x11 => some [1, 1]
  | 0x12 => some [1]
  | 0x13 => some [1]
  | 0x14 => some [1]
  | 0x15 => some [1]
  | 0x16 => some [1]
  | 0x17 => some [1]
  | 0x18 => some []
  | 0x19 => some [1]
  | 0x1A => some [1]
  | 0x20 => some [4, 1, 4, 4, 4]
  | 0x21 => some [4]
  | 0x22 => some [1]
  | 0x28 => some [1, 1, 4, 4]
  | 0x29 => some [1]
  | 0x2A => some [1]
  | 0x30 => some [4]
  | 0x31 => some [4]
  | 0x32 => some []
  | 0x40 => some []
  | 0x41 => some [1, 1, 1]
  | 0x42 => some [4, 1, 1, 1, 8]
  | 0x43 => some [1, 16]
  | 0x44 => some []
  | 0x45 => some [1, 16, 1]
  | 0x46 => some []
  | 0x47 => some []
  | 0x50 => some [1, 1, 4, 4, 1, 1, 1]
  | 0x51 => some [1]
  | 0x52 => some [1]
  | 0x53 => some []
  | 0x54 => some []
  | 0x60 => some [4]
  | 0x61 => some [1, 1, 4, 1]
  | 0x62 => some [1, 1]
  | 0x63 => some []
  | 0x64 => some []
  | 0x65 => some [1]
  | 0x66 => some []
  | 0x67 => some []
  | _ => none

/-- The command that a code and its parameter values spell. -/
def commandOfValues (code : Nat) (values : List Nat) : Option Command :=
  match code with
  | 0x10 =>
    match values with
    | [line, order, compartment] => some (.arm line order compartment)
    | _ => none
  | 0x11 =>
    match values with
    | [line, compartment] => some (.armFlush line compartment)
    | _ => none
  | 0x12 =>
    match values with
    | [line] => some (.disarm line)
    | _ => none
  | 0x13 =>
    match values with
    | [line] => some (.start line)
    | _ => none
  | 0x14 =>
    match values with
    | [line] => some (.pause line)
    | _ => none
  | 0x15 =>
    match values with
    | [line] => some (.resume line)
    | _ => none
  | 0x16 =>
    match values with
    | [line] => some (.stop line)
    | _ => none
  | 0x17 =>
    match values with
    | [line] => some (.endDelivery line)
    | _ => none
  | 0x18 => some .emergencyStop
  | 0x19 =>
    match values with
    | [line] => some (.readLineStatus line)
    | _ => none
  | 0x1A =>
    match values with
    | [line] => some (.readTotalizers line)
    | _ => none
  | 0x20 =>
    match values with
    | [order, product, preset, price, customer] => some (.loadOrder order product (toSigned 32 preset) price customer)
    | _ => none
  | 0x21 =>
    match values with
    | [order] => some (.removeOrder order)
    | _ => none
  | 0x22 =>
    match values with
    | [position] => some (.readOrder position)
    | _ => none
  | 0x28 =>
    match values with
    | [compartment, product, volume, reserve] => some (.loadCompartment compartment product (toSigned 32 volume) (toSigned 32 reserve))
    | _ => none
  | 0x29 =>
    match values with
    | [compartment] => some (.readCompartment compartment)
    | _ => none
  | 0x2A =>
    match values with
    | [product] => some (.readProduct product)
    | _ => none
  | 0x30 =>
    match values with
    | [sequence] => some (.readRecord sequence)
    | _ => none
  | 0x31 =>
    match values with
    | [sequence] => some (.releaseThrough sequence)
    | _ => none
  | 0x32 => some .readJournalState
  | 0x40 => some .readCalibrationIdentity
  | 0x41 =>
    match values with
    | [scope, kind, band] => some (.readCalibrationItem scope kind band)
    | _ => none
  | 0x42 =>
    match values with
    | [quoted, scope, kind, band, value] => some (.writeCalibrationItem quoted scope kind band (BitVec.ofNat 64 value))
    | _ => none
  | 0x43 =>
    match values with
    | [kind, credential] => some (.unlock kind (BitVec.ofNat 128 credential))
    | _ => none
  | 0x44 => some .lock
  | 0x45 =>
    match values with
    | [kind, credential, level] => some (.setCredential kind (BitVec.ofNat 128 credential) level)
    | _ => none
  | 0x46 => some .removeLock
  | 0x47 => some .freeze
  | 0x50 =>
    match values with
    | [index, direction, matchValue, mask, action, gate, persist] => some (.writePassEntry index direction matchValue mask action gate persist)
    | _ => none
  | 0x51 =>
    match values with
    | [index] => some (.deletePassEntry index)
    | _ => none
  | 0x52 =>
    match values with
    | [index] => some (.readPassEntry index)
    | _ => none
  | 0x53 => some .readForwardingCounters
  | 0x54 => some .clearForwardingCounters
  | 0x60 =>
    match values with
    | [time] => some (.setTime time)
    | _ => none
  | 0x61 =>
    match values with
    | [setting, line, value, persist] => some (.writeSetting setting line (toSigned 32 value) persist)
    | _ => none
  | 0x62 =>
    match values with
    | [setting, line] => some (.readSetting setting line)
    | _ => none
  | 0x63 => some .restoreDefaults
  | 0x64 => some .readDeviceStatus
  | 0x65 =>
    match values with
    | [rank] => some (.clearCondition rank)
    | _ => none
  | 0x66 => some .park
  | 0x67 => some .restart
  | _ => none

/-- A byte is a command code of the layout table (R178 step 2). -/
def knownCode (code : Nat) : Bool := (commandWidths code).isSome

/-- The command of a frame from its code and the bytes after the tag; none when the code is unknown or the bytes
are shorter than the parameters it needs (R178 step 4; the level of SET CREDENTIAL is one for FLEET too, entry 27). -/
def parseCommand (code : Nat) (parameters : List Byte) : Option Command :=
  (commandWidths code).bind fun ws => (readFields ws parameters).bind (commandOfValues code)

/-- The parameter values of a command, in the order of the table. -/
def Command.values : Command → List Nat
  | .arm line order compartment => [line, order, compartment]
  | .armFlush line compartment => [line, compartment]
  | .disarm line => [line]
  | .start line => [line]
  | .pause line => [line]
  | .resume line => [line]
  | .stop line => [line]
  | .endDelivery line => [line]
  | .emergencyStop => []
  | .readLineStatus line => [line]
  | .readTotalizers line => [line]
  | .loadOrder order product preset price customer => [order, product, ofSigned 32 preset, price, customer]
  | .removeOrder order => [order]
  | .readOrder position => [position]
  | .loadCompartment compartment product volume reserve => [compartment, product, ofSigned 32 volume, ofSigned 32 reserve]
  | .readCompartment compartment => [compartment]
  | .readProduct product => [product]
  | .readRecord sequence => [sequence]
  | .releaseThrough sequence => [sequence]
  | .readJournalState => []
  | .readCalibrationIdentity => []
  | .readCalibrationItem scope kind band => [scope, kind, band]
  | .writeCalibrationItem quoted scope kind band value => [quoted, scope, kind, band, value.toNat]
  | .unlock kind credential => [kind, credential.toNat]
  | .lock => []
  | .setCredential kind credential level => [kind, credential.toNat, level]
  | .removeLock => []
  | .freeze => []
  | .writePassEntry index direction matchValue mask action gate persist => [index, direction, matchValue, mask, action, gate, persist]
  | .deletePassEntry index => [index]
  | .readPassEntry index => [index]
  | .readForwardingCounters => []
  | .clearForwardingCounters => []
  | .setTime time => [time]
  | .writeSetting setting line value persist => [setting, line, ofSigned 32 value, persist]
  | .readSetting setting line => [setting, line]
  | .restoreDefaults => []
  | .readDeviceStatus => []
  | .clearCondition rank => [rank]
  | .park => []
  | .restart => []

/-- The parameter bytes of a command. -/
def Command.parameters (c : Command) : List Byte :=
  writeFields ((commandWidths c.code).getD []) c.values

/-- The data of the command frame: code, tag, parameters. -/
def Command.frameData (tag : Nat) (c : Command) : List Byte :=
  BitVec.ofNat 8 c.code :: BitVec.ofNat 8 tag :: c.parameters

/-! ### The word decoder -/

/-- The command that a word spells by the table's bits. The operation table gives no row any bits, so no word
spells a command. -/
def decodeTableWord (_nbits _w : Nat) : Option Instr := none

end Sys2Proof
end

