-- ==== Sys2Proof/Machine/State.lean ====
section
/-! DEFINITION. Everything the spec gives the part, as plain data, and `State.reset`: a factory-fresh part right
after its first power-on (entry 1). Timers are deadlines on the time base (entry 5). -/

namespace Sys2Proof.Machine

/-- One value for each delivery line. -/
structure PerLine (α : Type) where
  line1 : α
  line2 : α
  deriving DecidableEq, Repr

/-- The value of a line. -/
def PerLine.get {α : Type} (p : PerLine α) : LineId → α
  | .line1 => p.line1
  | .line2 => p.line2

/-- The values with a line's value replaced. -/
def PerLine.set {α : Type} (p : PerLine α) (l : LineId) (a : α) : PerLine α :=
  match l with
  | .line1 => { p with line1 := a }
  | .line2 => { p with line2 := a }

/-- A timer: stopped, or running toward a deadline (entry 5). -/
abbrev Timer := Option Micros

/-! ### Pulse inputs (spec/01, table 1.1) -/

/-- One pulse input. `timerStart` is the instant of the period timer's last restart, from which the timer and the
overflow count follow (R6). -/
structure PulseInput where
  forward : Nat
  reverse : Nat
  errors : Nat
  refA : Option Micros
  refB : Option Micros
  last : Option Channel
  timerStart : Micros
  periodStart : Bool
  flow : Nat
  deriving DecidableEq, Repr

/-- The levels of a pulser's two inputs, high or not (R1). -/
structure PulserLevels where
  a : Bool
  b : Bool
  deriving DecidableEq, Repr

/-! ### Lines (spec/05) -/

/-- The eleven line states, in the order of their codes (R192). -/
inductive LineState where
  | idle
  | armed
  | flowing
  | slowdown
  | airHold
  | stopping
  | paused
  | finished
  | suspended
  | interrupted
  | closing
  deriving DecidableEq, Repr

/-- The kinds of delivery context (R69). -/
inductive DeliveryKind where
  | delivery
  | flush
  deriving DecidableEq, Repr

/-- The delivery context (R69). The reserved place is the reservation that names the line (entry 10). -/
structure Delivery where
  kind : DeliveryKind
  order : Option Nat
  customer : Option Nat
  price : Option Nat
  preset : Option Volume
  product : ProductNo
  compartment : CompartmentNo
  ticket : Option Nat
  gross : Volume
  net : Volume
  billed : Volume
  unbilled : Volume
  reversePulses : Nat
  integrityErrors : Nat
  sumTG : Int
  tempGross : Volume
  startTime : Option Nat
  endTime : Option Nat
  stopCause : Option StopCause
  stopTarget : Option StopTarget
  faults : FaultSet
  flags : Flags
  eventCount : Nat
  unattendedBefore : Volume
  deriving DecidableEq, Repr

/-- The hose product (R53). -/
inductive HoseProduct where
  | unknown
  | product (p : ProductNo)
  | mixed
  deriving DecidableEq, Repr

/-- The items of the line context that the line context store keeps (R193). -/
structure LineCopy where
  state : LineState
  ctx : Option Delivery
  hose : HoseProduct
  grossTotal : Volume
  netTotal : Volume
  grossRem : Int
  netRem : Int
  unattended : Volume
  lifetimeErrors : Nat
  deriving DecidableEq, Repr

/-- An accepted temperature sample: its value in cd and the instant of its arrival (R25, R27). -/
structure Sample where
  value : Int
  since : Micros
  deriving DecidableEq, Repr

/-- The states a line in AIR_HOLD may resume to (R90). -/
inductive ResumeState where
  | flowing
  | slowdown
  deriving DecidableEq, Repr

/-- One line controller: what the store keeps, and the volatile items of R68, R26, R186 and R20. -/
structure Line where
  kept : LineCopy
  temp : Option Sample
  probeErrors : Nat
  airFlag : Bool
  airSilent : Bool
  airInStop : Bool
  resume : Option ResumeState
  noFlow : Timer
  airHold : Timer
  airClear : Timer
  airSilence : Timer
  report : Timer
  nextTick : Micros
  deriving DecidableEq, Repr

/-! ### Valves (spec/06, R102, R113) -/

/-- Valve stages, in the order of their codes (R192). -/
inductive Stage where
  | close
  | openSlow
  | openFull
  deriving DecidableEq, Repr

/-- Valve positions, in the order of their codes (R192). -/
inductive Position where
  | closed
  | slow
  | full
  | fault
  deriving DecidableEq, Repr

/-- One valve record (R102), with the line's own-frame slot (R103). -/
structure ValveRecord where
  commanded : Stage
  sendCount : Nat
  confirmed : Bool
  confirmTimer : Timer
  escalated : Bool
  retryTimer : Timer
  reported : Option Position
  slot : Option Stage
  deriving DecidableEq, Repr

/-- The reasons of a pump stop, in the order of their codes (R192). -/
inductive PumpReason where
  | emergencyStop
  | valveFault
  | powerLoss
  deriving DecidableEq, Repr

/-- A pending pump stop: its reason and, for VALVE_FAULT, the line (R113). -/
structure PumpStop where
  reason : PumpReason
  line : Option LineId
  deriving DecidableEq, Repr

/-! ### Products, compartments and orders (spec/03, spec/04) -/

/-- A product record (R40). -/
structure Product where
  defined : Bool
  alpha : Nat
  beta : Nat
  tref : Int
  basis : Basis
  deriving DecidableEq, Repr

/-- A compartment record; product absent is EMPTY (R43). -/
structure Compartment where
  product : Option ProductNo
  remaining : Volume
  reserve : Volume
  granted : Option LineId
  deriving DecidableEq, Repr

/-- An order; `bound` absent is WAITING (R58). -/
structure Order where
  number : Nat
  product : ProductNo
  preset : Volume
  price : Nat
  customer : Nat
  bound : Option LineId
  deriving DecidableEq, Repr

/-! ### Ticket journal (spec/07) -/

/-- Who holds a reservation or a queued write (R117, R125). -/
inductive Holder where
  | line (l : LineId)
  | calibration
  deriving DecidableEq, Repr

/-- A place that holds a reservation (R117). -/
structure Reservation where
  holder : Holder
  kind : RecordKind
  sequence : Option Nat
  deriving DecidableEq, Repr

/-- A place that holds a record: its directory entry, its contents, and the check value stored with them (R117,
R126; entry 11). -/
structure JournalRecord where
  sequence : Nat
  kind : RecordKind
  released : Bool
  contents : StoredFields
  check : Nat
  deriving DecidableEq, Repr

/-- A write in the write queue (R125). -/
structure JournalWrite where
  holder : Holder
  sequence : Nat
  contents : Contents
  deriving DecidableEq, Repr

/-- The journal. The places that neither list takes up are empty (R117; entry 10). -/
structure Journal where
  records : List JournalRecord
  reservations : List Reservation
  queue : List JournalWrite
  newestSeq : Nat
  newestWritten : Nat
  newestTicket : Nat
  deriving DecidableEq, Repr

/-! ### Calibration set and metrology lock (spec/08) -/

/-- A used band entry (R22). -/
structure Band where
  lower : Nat
  correction : Int
  deriving DecidableEq, Repr

/-- The calibration items of a line (R138). `bands` holds the used entries, so its length is the used count. -/
structure LineCalibration where
  k : Nat
  bands : List Band
  integrityLimit : Nat
  reverseLimit : Nat
  hoseVolume : Nat
  valveId : Nat
  probeId : Nat
  airId : Nat
  deriving DecidableEq, Repr

/-- The calibration set (R138, R142). -/
structure Calibration where
  lines : PerLine LineCalibration
  pumpStopId : Nat
  products : Vector Product 8
  eventCount : Nat
  deriving DecidableEq, Repr

/-- The lock state; UNLOCKED holds its unlocking credential (R151). -/
inductive LockState where
  | opened
  | locked
  | unlocked (with_ : CredentialKind)
  deriving DecidableEq, Repr

/-- A staged credential: which, and its bytes (R151, R156). -/
structure StagedCredential where
  which : CredentialKind
  value : BitVec 128
  deriving DecidableEq, Repr

/-- The metrology lock (R151). `strict` is the level; `relock` is a deadline on `now`, which runs in park. -/
structure Lock where
  inspector : Option (BitVec 128)
  fleet : Option (BitVec 128)
  strict : Bool
  staged : Option StagedCredential
  state : LockState
  attempts : Nat
  frozen : Bool
  relock : Timer
  deriving DecidableEq, Repr

/-! ### Frame forwarding (spec/09) -/

/-- The directions of forwarding, in the order of their codes (R165, R192). -/
inductive Direction where
  | cabToField
  | fieldToCab
  deriving DecidableEq, Repr

/-- The actions of a pass entry, in the order of their codes (R165, R192). -/
inductive Action where
  | pass
  | drop
  | passWhenFlowing
  deriving DecidableEq, Repr

/-- The gates of a pass entry, in the order of their codes (R165, R192). -/
inductive Gate where
  | line1
  | line2
  | either
  deriving DecidableEq, Repr

/-- A pass entry (R165). -/
structure PassEntry where
  inUse : Bool
  direction : Direction
  matchValue : Nat
  mask : Nat
  action : Action
  gate : Gate
  persist : Bool
  deriving DecidableEq, Repr

/-- The five counters of a direction (R173). -/
structure Counters where
  forwarded : Nat
  fullDrop : Nat
  tableDrop : Nat
  gatedDrop : Nat
  protectedDrop : Nat
  deriving DecidableEq, Repr

/-- The two requests that a response's departure performs (R198, R200). -/
inductive ResetKind where
  | park
  | restart
  deriving DecidableEq, Repr

/-- A frame in transmission: whether it came from a forward FIFO, and what its completion performs (R171, R198). -/
structure Transmission where
  frame : Frame
  forwarded : Bool
  performs : Option ResetKind
  deriving DecidableEq, Repr

/-- The forwarding block (R165, R170, R171, R173, R174). -/
structure Forwarding where
  effect : Vector PassEntry 24
  stored : Vector PassEntry 24
  toField : List Frame
  toCab : List Frame
  txField : Option Transmission
  txCab : Option Transmission
  fieldOff : Bool
  cabOff : Bool
  countToField : Counters
  countToCab : Counters
  deriving DecidableEq, Repr

/-! ### Command port and reporting (spec/10) -/

/-- The status codes, in the order of their codes (R179). -/
inductive Status where
  | ok
  | busy
  | unknown
  | parameter
  | state
  | notFound
  | duplicate
  | tableFull
  | journalFull
  | productMismatch
  | hoseProduct
  | compartmentBusy
  | compartmentLow
  | presetReached
  | uncalibrated
  | tempAbsent
  | locked
  | badCredential
  | lockout
  | level
  | frozen
  | stale
  | wakePending
  deriving DecidableEq, Repr

/-- The answer status of a command frame as the port remembers it (R178). -/
inductive AnswerStatus where
  | none
  | inFlight
  | answered (s : Status)
  deriving DecidableEq, Repr

/-- The previous command frame (R178). -/
structure PreviousCommand where
  code : Nat
  status : AnswerStatus
  deriving DecidableEq, Repr

/-- A response in the response slot, and what its departure's completion performs (R180, R198, R200). -/
structure Response where
  frame : Frame
  performs : Option ResetKind
  deriving DecidableEq, Repr

/-- The calibration-class command in flight (R181). -/
structure InFlight where
  code : Nat
  tag : Nat
  deriving DecidableEq, Repr

/-- The command port (R177, R178, R180, R181, R198, R200). -/
structure CommandPort where
  address : Nat
  responses : List Response
  inFlight : Option InFlight
  previous : Option PreviousCommand
  pendingReset : Option ResetKind
  deriving DecidableEq, Repr

/-- The status requests of the cab port and the rotation of the line status frames (R172). -/
structure Reports where
  lines : PerLine Bool
  device : Bool
  lastLine : Option LineId
  deriving DecidableEq, Repr

/-- The default actions (R182). -/
inductive DefaultAction where
  | pass
  | drop
  deriving DecidableEq, Repr

/-- The per-line settings (R182): seconds and mL. -/
structure LineSettings where
  noFlow : Nat
  softStart : Volume
  slowdown : Volume
  closeAhead : Volume
  deriving DecidableEq, Repr

/-- One value of each setting (R182): the report interval in ms, the air-hold timeout in s. -/
structure Settings where
  address : Nat
  reportInterval : Nat
  airHold : Nat
  toField : DefaultAction
  toCab : DefaultAction
  lines : PerLine LineSettings
  deriving DecidableEq, Repr

/-- The seconds clock (R185). -/
structure Clock where
  count : Nat
  isSet : Bool
  deriving DecidableEq, Repr

/-! ### The part as a whole (spec/11) -/

/-- Supply, POWER_FAIL, holdup and park (R194 to R199). -/
structure Power where
  on : Bool
  failPin : Bool
  holdup : Bool
  releaseWaiting : Bool
  parked : Bool
  wakeDelay : Timer
  deriving DecidableEq, Repr

/-- The state of the part. `pending`, `now` and `awake` are the model's own (entries 2 and 5). -/
structure State where
  pending : List Instr
  now : Micros
  awake : Micros
  clock : Clock
  power : Power
  levels : PerLine PulserLevels
  pulse : PerLine PulseInput
  line : PerLine Line
  valve : PerLine ValveRecord
  pumpSlot : Option PumpStop
  compartments : Vector Compartment 6
  orders : List Order
  journal : Journal
  journalDamage : Bool
  cal : Calibration
  lock : Lock
  forward : Forwarding
  port : CommandPort
  reports : Reports
  settings : Settings
  storedSettings : Settings
  store : PerLine LineCopy
  deriving DecidableEq, Repr

/-- The part stops on no event: every event of the spec has an outcome in every state. -/
inductive Fault where
  deriving DecidableEq, Repr

/-- Why a command is not run. -/
inductive Refusal where
  /-- Raised by an arm of `exec` whose command has no meaning yet; safe. No arm raises it. -/
  | notModelled (mnemonic : String)
  deriving DecidableEq, Repr

/-! ### Reset (entry 1) -/

/-- A pulse input in the cleared state (R15), its period timer restarted at `at_`. -/
def PulseInput.cleared (at_ : Micros) : PulseInput :=
  { forward := 0, reverse := 0, errors := 0, refA := none, refB := none, last := none,
    timerStart := at_, periodStart := false, flow := 0 }

/-- A line's copy in the factory state (R193). -/
def LineCopy.factory : LineCopy :=
  { state := .idle, ctx := none, hose := .unknown, grossTotal := 0, netTotal := 0, grossRem := 0, netRem := 0,
    unattended := 0, lifetimeErrors := 0 }

/-- A line controller right after power-on at `at_` with the given copy, before its report timer is started
(R26, R101; the first tick comes 100 ms after, R20). -/
def Line.powered (copy : LineCopy) (at_ : Micros) : Line :=
  { kept := copy, temp := none, probeErrors := 0, airFlag := false, airSilent := false, airInStop := false,
    resume := none, noFlow := none, airHold := none, airClear := none, airSilence := some (at_ + 5000000),
    report := none, nextTick := at_ + 100000 }

/-- A valve record right after the CLOSE of power-on at `at_` (R115). -/
def ValveRecord.powered (at_ : Micros) : ValveRecord :=
  { commanded := .close, sendCount := 1, confirmed := false, confirmTimer := some (at_ + 500000),
    escalated := false, retryTimer := none, reported := none, slot := some .close }

/-- A product record in the factory state (R40). -/
def Product.factory : Product := { defined := false, alpha := 0, beta := 0, tref := 1500, basis := .gross }

/-- A compartment record in the factory state (R43). -/
def Compartment.factory : Compartment := { product := none, remaining := 0, reserve := 0, granted := none }

/-- A line's calibration items in the factory state, with its identifiers (R138). -/
def LineCalibration.factory (valveId probeId airId : Nat) : LineCalibration :=
  { k := 0, bands := [{ lower := 0, correction := 0 }], integrityLimit := 8, reverseLimit := 200, hoseVolume := 0,
    valveId := valveId, probeId := probeId, airId := airId }

/-- The calibration set in the factory state (R138, R142). -/
def Calibration.factory : Calibration :=
  { lines := { line1 := .factory 0x18E40010 0x18E40020 0x18E40030,
               line2 := .factory 0x18E40110 0x18E40120 0x18E40130 },
    pumpStopId := 0x18E40200, products := Vector.replicate 8 .factory, eventCount := 0 }

/-- The cleared pass entry (R165). -/
def PassEntry.cleared : PassEntry :=
  { inUse := false, direction := .cabToField, matchValue := 0, mask := 0, action := .drop, gate := .either,
    persist := false }

/-- Counters at 0 (R173). -/
def Counters.zero : Counters := { forwarded := 0, fullDrop := 0, tableDrop := 0, gatedDrop := 0, protectedDrop := 0 }

/-- A line's settings at their defaults (R182). -/
def LineSettings.defaults : LineSettings := { noFlow := 120, softStart := 2000, slowdown := 20000, closeAhead := 1500 }

/-- The settings at their defaults (R182). -/
def Settings.defaults : Settings :=
  { address := 0, reportInterval := 1000, airHold := 120, toField := .drop, toCab := .pass,
    lines := { line1 := .defaults, line2 := .defaults } }

/-- The part right after its first power-on from the factory state (entry 1). -/
def State.reset : State :=
  { pending := [], now := 0, awake := 0,
    clock := { count := 0, isSet := false },
    power := { on := true, failPin := false, holdup := false, releaseWaiting := false, parked := false,
               wakeDelay := none },
    levels := { line1 := { a := false, b := false }, line2 := { a := false, b := false } },
    pulse := { line1 := .cleared 0, line2 := .cleared 0 },
    line := { line1 := .powered .factory 0, line2 := .powered .factory 0 },
    valve := { line1 := .powered 0, line2 := .powered 0 },
    pumpSlot := none,
    compartments := Vector.replicate 6 .factory,
    orders := [],
    journal := { records := [], reservations := [], queue := [], newestSeq := 0, newestWritten := 0,
                 newestTicket := 0 },
    journalDamage := false,
    cal := .factory,
    lock := { inspector := none, fleet := none, strict := false, staged := none, state := .opened, attempts := 5,
              frozen := false, relock := none },
    forward := { effect := Vector.replicate 24 .cleared, stored := Vector.replicate 24 .cleared, toField := [],
                 toCab := [], txField := none, txCab := none, fieldOff := false, cabOff := false,
                 countToField := .zero, countToCab := .zero },
    port := { address := 0, responses := [], inFlight := none, previous := none, pendingReset := none },
    reports := { lines := { line1 := true, line2 := true }, device := true, lastLine := none },
    settings := .defaults,
    storedSettings := .defaults,
    store := { line1 := .factory, line2 := .factory } }

end Sys2Proof.Machine
end

