-- ==== Sys2Proof/Machine/Operands.lean ====
section
/-! DEFINITION. Operand and field forms: the codes of section 10.7 (R192) in both directions, the numbers that name
a line, a product, a compartment or a calibration item, and the bytes of each kind of field. -/

namespace Sys2Proof.Machine

/-! ### Numbers that name things -/

/-- The line that a line number names; none outside 1 and 2 (R71). -/
def lineOfNumber : Nat → Option LineId
  | 1 => some .line1
  | 2 => some .line2
  | _ => none

/-- The number of a line. -/
def lineNumber : LineId → Nat
  | .line1 => 1
  | .line2 => 2

/-- A line field: 0 for none (R192). -/
def lineField : Option LineId → Nat
  | none => 0
  | some l => lineNumber l

/-- The product that a number from 1 to 8 names (R42). -/
def productOfNumber (n : Nat) : Option ProductNo :=
  if h : 1 ≤ n ∧ n ≤ 8 then some ⟨n - 1, by omega⟩ else none

/-- The compartment that a number from 1 to 6 names (R43). -/
def compartmentOfNumber (n : Nat) : Option CompartmentNo :=
  if h : 1 ≤ n ∧ n ≤ 6 then some ⟨n - 1, by omega⟩ else none

/-- The pass entry index 0 to 23 (R165). -/
def passIndexOfNumber (n : Nat) : Option (Fin 24) :=
  if h : n < 24 then some ⟨n, h⟩ else none

/-- A product field. R192 codes EMPTY as 0 in the parameter of LOAD COMPARTMENT. DESIGN CHOICE, entry 49: the responses of
READ COMPARTMENT and LOAD COMPARTMENT, for which it gives no coding of EMPTY, carry 0 as well. -/
def productField : Option ProductNo → Nat
  | none => 0
  | some p => p.val + 1

/-! ### Enumeration codes (R192) -/

/-- Line state codes. -/
def LineState.code : LineState → Nat
  | .idle => 0
  | .armed => 1
  | .flowing => 2
  | .slowdown => 3
  | .airHold => 4
  | .stopping => 5
  | .paused => 6
  | .finished => 7
  | .suspended => 8
  | .interrupted => 9
  | .closing => 10

end Sys2Proof.Machine

namespace Sys2Proof

/-- Stop cause codes, which are also the fault set bits. -/
def StopCause.code : StopCause → Nat
  | .preset => 0
  | .volumeLimit => 1
  | .compartmentLow => 2
  | .operatorStop => 3
  | .operatorPause => 4
  | .noFlow => 5
  | .airTimeout => 6
  | .pulserFault => 7
  | .reverseFlow => 8
  | .tempLost => 9
  | .emergencyStop => 10
  | .valveFault => 11
  | .powerLoss => 12

/-- Stop target codes; a greater code is a more severe target (R85). -/
def StopTarget.code : StopTarget → Nat
  | .paused => 0
  | .finished => 1
  | .suspended => 2

/-- The delivery flags as bits. -/
def Flags.code (f : Flags) : Nat :=
  f.calUnlocked.toNat + 2 * f.tempHeld.toNat + 4 * f.tempAbsent.toNat + 8 * f.interrupted.toNat
    + 16 * f.clockUnset.toNat + 32 * f.airSeen.toNat + 64 * f.airUnmonitored.toNat + 128 * f.lateFlow.toNat
    + 256 * f.vcfClamped.toNat

/-- No flag set (R69). -/
def Flags.clear : Flags :=
  { calUnlocked := false, tempHeld := false, tempAbsent := false, interrupted := false, clockUnset := false,
    airSeen := false, airUnmonitored := false, lateFlow := false, vcfClamped := false }

/-- Basis codes. -/
def Basis.code : Basis → Nat
  | .gross => 0
  | .net => 1

/-- Record kind codes. -/
def RecordKind.code : RecordKind → Nat
  | .delivery => 0
  | .flush => 1
  | .calibration => 2

/-- Credential codes; NONE is 0. -/
def CredentialKind.code : CredentialKind → Nat
  | .fleet => 1
  | .inspector => 2

/-- The credential that a code names (R152, R156). -/
def CredentialKind.ofCode : Nat → Option CredentialKind
  | 1 => some .fleet
  | 2 => some .inspector
  | _ => none

end Sys2Proof

namespace Sys2Proof.Machine

/-- Valve stage codes. -/
def Stage.code : Stage → Nat
  | .close => 0
  | .openSlow => 1
  | .openFull => 2

/-- Valve position codes. -/
def Position.code : Position → Nat
  | .closed => 0
  | .slow => 1
  | .full => 2
  | .fault => 3

/-- The valve position that a code names; none for any other value (R104). -/
def Position.ofCode : Nat → Option Position
  | 0 => some .closed
  | 1 => some .slow
  | 2 => some .full
  | 3 => some .fault
  | _ => none

/-- Pump stop reason codes. -/
def PumpReason.code : PumpReason → Nat
  | .emergencyStop => 0
  | .valveFault => 1
  | .powerLoss => 2

/-- Hose product codes. -/
def HoseProduct.code : HoseProduct → Nat
  | .unknown => 0
  | .product p => p.val + 1
  | .mixed => 9

/-- Lock state codes. -/
def LockState.code : LockState → Nat
  | .opened => 0
  | .locked => 1
  | .unlocked _ => 2

/-- Direction codes. -/
def Direction.code : Direction → Nat
  | .cabToField => 0
  | .fieldToCab => 1

/-- The direction that a code names (R166). -/
def Direction.ofCode : Nat → Option Direction
  | 0 => some .cabToField
  | 1 => some .fieldToCab
  | _ => none

/-- Action codes. -/
def Action.code : Action → Nat
  | .pass => 0
  | .drop => 1
  | .passWhenFlowing => 2

/-- The action that a code names (R166). -/
def Action.ofCode : Nat → Option Action
  | 0 => some .pass
  | 1 => some .drop
  | 2 => some .passWhenFlowing
  | _ => none

/-- Gate codes. -/
def Gate.code : Gate → Nat
  | .line1 => 0
  | .line2 => 1
  | .either => 2

/-- The gate that a code names (R166). -/
def Gate.ofCode : Nat → Option Gate
  | 0 => some .line1
  | 1 => some .line2
  | 2 => some .either
  | _ => none

/-- A yes/no field; none for any other value (R166, R182). R182 codes its persist flag 0 and 1. DESIGN CHOICE, entry 50:
1 is yes and 0 is no in every other yes/no field as well. -/
def yesNoOfCode : Nat → Option Bool
  | 0 => some false
  | 1 => some true
  | _ => none

/-- Status codes (R179). -/
def Status.code : Status → Nat
  | .ok => 0
  | .busy => 1
  | .unknown => 2
  | .parameter => 3
  | .state => 4
  | .notFound => 5
  | .duplicate => 6
  | .tableFull => 7
  | .journalFull => 8
  | .productMismatch => 9
  | .hoseProduct => 10
  | .compartmentBusy => 11
  | .compartmentLow => 12
  | .presetReached => 13
  | .uncalibrated => 14
  | .tempAbsent => 15
  | .locked => 16
  | .badCredential => 17
  | .lockout => 18
  | .level => 19
  | .frozen => 20
  | .stale => 21
  | .wakePending => 22

/-! ### Selectors (R138, R192) -/

/-- The selector that a scope, an item kind and a band index spell; none where they do not fit R138. The band index
is read for BAND alone. -/
def selectorOf (scope kind band : Nat) : Option ItemSel :=
  match scope with
  | 0 => if kind = 9 then some .pumpStopId else none
  | 1 => lineItem .line1
  | 2 => lineItem .line2
  | n + 3 =>
    if h : 17 ≤ n + 3 ∧ n + 3 ≤ 24 then productItem ⟨n + 3 - 17, by omega⟩ else none
where
  lineItem (l : LineId) : Option ItemSel :=
    match kind with
    | 0 => some (.kFactor l)
    | 1 => some (.bandCount l)
    | 2 => if h : band < 6 then some (.band l ⟨band, h⟩) else none
    | 3 => some (.integrityLimit l)
    | 4 => some (.reverseLimit l)
    | 5 => some (.hoseVolume l)
    | 6 => some (.valveId l)
    | 7 => some (.probeId l)
    | 8 => some (.airId l)
    | _ => none
  productItem (p : ProductNo) : Option ItemSel :=
    match kind with
    | 10 => some (.defined p)
    | 11 => some (.alpha p)
    | 12 => some (.beta p)
    | 13 => some (.tref p)
    | 14 => some (.basis p)
    | _ => none

/-- Scope, item kind and band index of an item; the band index is 0 for every kind but BAND (R124, R138). -/
def selectorCodes : ItemSel → Nat × Nat × Nat
  | .kFactor l => (lineNumber l, 0, 0)
  | .bandCount l => (lineNumber l, 1, 0)
  | .band l i => (lineNumber l, 2, i.val)
  | .integrityLimit l => (lineNumber l, 3, 0)
  | .reverseLimit l => (lineNumber l, 4, 0)
  | .hoseVolume l => (lineNumber l, 5, 0)
  | .valveId l => (lineNumber l, 6, 0)
  | .probeId l => (lineNumber l, 7, 0)
  | .airId l => (lineNumber l, 8, 0)
  | .pumpStopId => (0, 9, 0)
  | .defined p => (17 + p.val, 10, 0)
  | .alpha p => (17 + p.val, 11, 0)
  | .beta p => (17 + p.val, 12, 0)
  | .tref p => (17 + p.val, 13, 0)
  | .basis p => (17 + p.val, 14, 0)

/-- Scope, item kind and band index of a record's item: a credential and the lock are GLOBAL (R124). -/
def recordItemCodes : RecordItem → Nat × Nat × Nat
  | .item sel => selectorCodes sel
  | .credential .inspector => (0, 15, 0)
  | .credential .fleet => (0, 16, 0)
  | .lock => (0, 17, 0)

/-- The item that a CALIBRATION record's codes name; none where no item has them (R124, R192). -/
def recordItemOf (scope kind band : Nat) : Option RecordItem :=
  match selectorOf scope kind band with
  | some sel => some (.item sel)
  | none =>
    match scope, kind with
    | 0, 15 => some (.credential .inspector)
    | 0, 16 => some (.credential .fleet)
    | 0, 17 => some .lock
    | _, _ => none

/-- The setting, with its line, that a setting code and a line number name (R182, R192). -/
inductive SettingSel where
  | address
  | reportInterval
  | noFlow (l : LineId)
  | softStart (l : LineId)
  | slowdown (l : LineId)
  | closeAhead (l : LineId)
  | airHold
  | toField
  | toCab
  deriving DecidableEq, Repr

/-- The setting named; none when the setting is not of the table, or the line does not fit it (R182). -/
def settingOf (setting line : Nat) : Option SettingSel :=
  match setting with
  | 0 => global .address
  | 1 => global .reportInterval
  | 2 => perLine .noFlow
  | 3 => perLine .softStart
  | 4 => perLine .slowdown
  | 5 => perLine .closeAhead
  | 6 => global .airHold
  | 7 => global .toField
  | 8 => global .toCab
  | _ => none
where
  global (sel : SettingSel) : Option SettingSel := if line = 0 then some sel else none
  perLine (sel : LineId → SettingSel) : Option SettingSel := (lineOfNumber line).map sel

/-! ### Field bytes (R192) -/

/-- A 1-byte field. -/
def b1 (n : Nat) : List Byte := leBytes 1 n

/-- A 2-byte field. -/
def b2 (n : Nat) : List Byte := leBytes 2 n

/-- A 4-byte field. -/
def b4 (n : Nat) : List Byte := leBytes 4 n

/-- An 8-byte field. -/
def b8 (n : Nat) : List Byte := leBytes 8 n

/-- A yes/no field of a response. DESIGN CHOICE, entry 50: yes is 1 and no is 0; R192 gives its width alone. -/
def yesNo (b : Bool) : List Byte := b1 b.toNat

/-- A signed 2-byte field; out of range free (entry 12). -/
def s2 (x : Int) : List Byte :=
  if -32768 ≤ x ∧ x < 32768 then b2 (ofSigned 16 x) else b2 (Config.beyond16 x).toNat

/-- A signed 4-byte field; out of range free (entry 12). -/
def s4 (x : Int) : List Byte :=
  if -2147483648 ≤ x ∧ x < 2147483648 then b4 (ofSigned 32 x) else b4 (Config.beyond32 x).toNat

/-- A signed 4-byte field with a value outside the range reported as the nearest end (R36, R45, R187). -/
def s4Clamped (x : Int) : List Byte := b4 (ofSigned 32 (max (-2147483648) (min 2147483647 x)))

/-- A signed 8-byte field; out of range free (entry 12). -/
def s8 (x : Int) : List Byte :=
  if -9223372036854775808 ≤ x ∧ x < 9223372036854775808 then b8 (ofSigned 64 x)
  else b8 (Config.beyond64 x).toNat

/-- An optional field: absent, it takes its width filled with 0 (R192). -/
def optField {α : Type} (zero : List Byte) (f : α → List Byte) : Option α → List Byte
  | none => zero
  | some a => f a

/-- An optional enumeration or position reads 0xFF for absent (R192). -/
def optCode {α : Type} (f : α → Nat) : Option α → List Byte
  | none => b1 0xFF
  | some a => b1 (f a)

/-- A presence mask: bit n is set when the n-th optional field, from 0, is present (R192; entry 29). -/
def presence : List Bool → Nat
  | [] => 0
  | b :: bs => b.toNat + 2 * presence bs

/-- The 8 bytes of a calibration value (R192): a signed integer; a band's lower bound, correction and use; or the
credentials' and level's bits. DESIGN CHOICE, entry 45: byte 7 of a band value, and bits 3 to 7 of byte 0 and bytes 1 to
7 of a credential or lock value, to which R192 gives no content, are 0. DESIGN CHOICE, entry 50: byte 6 of a band value is
1 for a used entry and 0 for an unused one. -/
def calValueBytes : CalValue → List Byte
  | .int v => s8 v
  | .band lower correction used => b2 lower ++ s4 correction ++ yesNo used ++ b1 0
  | .lock inspectorSet fleetSet strict =>
    b8 (inspectorSet.toNat + 2 * fleetSet.toNat + 4 * strict.toNat)

/-- The signed integer in a calibration value's 8 bytes (R192). -/
def calInt (value : BitVec 64) : Int := value.toInt

/-- The lower bound in a band value: bytes 0 and 1 (R192). -/
def calBandLower (value : BitVec 64) : Nat := (value.extractLsb' 0 16).toNat

/-- The correction in a band value: bytes 2 to 5, signed (R192). -/
def calBandCorrection (value : BitVec 64) : Int := (value.extractLsb' 16 32).toInt

/-- The value of an item that the 8 bytes of a CALIBRATION record's value hold (R192). DESIGN CHOICE, entry 50: byte 6 of
a band value tells a used entry where it is not 0. -/
def calValueOf (item : RecordItem) (value : BitVec 64) : CalValue :=
  match item with
  | .item (.band _ _) =>
    .band (calBandLower value) (calBandCorrection value) (decide (value.extractLsb' 48 8 ≠ 0))
  | .item _ => .int (calInt value)
  | .credential _ | .lock => .lock (value.getLsbD 0) (value.getLsbD 1) (value.getLsbD 2)

/-- The CALIBRATION record that bits in the journal store spell in the layout of the read-out (R124, R192); none where
their codes name no item. -/
def calibrationOfRaw (f : RawFields) : Option CalibrationRecord :=
  let field := fun (at_ width : Nat) => (f.first.extractLsb' (8 * at_) (8 * width)).toNat
  (recordItemOf (field 8 1) (field 9 1) (field 10 1)).map fun item =>
    { newCount := field 0 4
      time := if f.mask.getLsbD 0 then some (field 4 4) else none
      item := item
      oldValue := calValueOf item (f.second.extractLsb' 0 64)
      newValue := calValueOf item (f.second.extractLsb' 64 64)
      credential := CredentialKind.ofCode (field 11 1) }

/-- The CALIBRATION record that stored fields give. -/
def calibrationOf : StoredFields → Option CalibrationRecord
  | .written (.calibration c) => some c
  | .written (.delivery _) => none
  | .changed f => calibrationOfRaw f

/-! ### The stored fields of a record (R123, R124, R126, R192) -/

/-- The optional fields of a record, in the order of R123 or R124 (entries 16 and 29). -/
def recordMask : Contents → Nat
  | .delivery d =>
    presence [d.ticket.isSome, d.order.isSome, d.customer.isSome, d.startTime.isSome, d.endTime.isSome,
              d.average.isSome, d.price.isSome, d.amount.isSome, d.preset.isSome, d.stopCause.isSome]
  | .calibration c => presence [c.time.isSome]

/-- An optional 4-byte field. -/
def opt4 (v : Option Nat) : List Byte := optField (b4 0) b4 v

/-- The fields of part 1 from byte 13. -/
def recordFields1 : Contents → List Byte
  | .delivery d =>
    opt4 d.ticket ++ b1 (lineNumber d.line) ++ opt4 d.order ++ opt4 d.customer ++ b1 (d.product.val + 1)
      ++ b1 (d.compartment.val + 1) ++ opt4 d.startTime ++ opt4 d.endTime ++ b1 d.basis.code
  | .calibration c =>
    b4 c.newCount ++ opt4 c.time ++ b1 (recordItemCodes c.item).1 ++ b1 (recordItemCodes c.item).2.1
      ++ b1 (recordItemCodes c.item).2.2 ++ b1 ((c.credential.map CredentialKind.code).getD 0)

/-- The fields of part 2 from byte 8. -/
def recordFields2 : Contents → List Byte
  | .delivery d =>
    s4 d.gross ++ s4 d.net ++ s4 d.billed ++ s4 d.unbilled ++ optField (b2 0) s2 d.average ++ opt4 d.price
      ++ opt4 d.amount ++ optField (b4 0) s4 d.preset ++ optCode StopCause.code d.stopCause ++ b2 d.faults.toNat
      ++ b2 d.flags.code ++ b4 d.reversePulses ++ b4 d.integrityErrors ++ s4 d.unattendedBefore ++ b4 d.eventCount
  | .calibration c => calValueBytes c.oldValue ++ calValueBytes c.newValue

/-- The bytes that the fields of a kind of record take in part 1 from byte 13 and in part 2 from byte 8 (R123, R124,
R192). -/
def fieldBytes : RecordKind → Nat × Nat
  | .delivery | .flush => (24, 51)
  | .calibration => (12, 16)

/-- The presence mask of stored fields, as it stands in the store (R128). -/
def storedMask : StoredFields → Nat
  | .written c => recordMask c
  | .changed f => f.mask.toNat

/-- The stored fields of part 1, as they stand in the store (R128). -/
def storedFields1 (kind : RecordKind) : StoredFields → List Byte
  | .written c => recordFields1 c
  | .changed f => leBytes (fieldBytes kind).1 f.first.toNat

/-- The stored fields of part 2, as they stand in the store (R128). -/
def storedFields2 (kind : RecordKind) : StoredFields → List Byte
  | .written c => recordFields2 c
  | .changed f => leBytes (fieldBytes kind).2 f.second.toNat

/-- All the stored fields of a record as bytes: presence mask, fields of part 1, fields of part 2. The check value is
computed over them (R126, R128; entry 11). -/
def storedBytes (kind : RecordKind) (f : StoredFields) : List Byte :=
  b2 (storedMask f) ++ storedFields1 kind f ++ storedFields2 kind f

end Sys2Proof.Machine
end

