-- ==== Sys2Proof/Machine/Ops.lean ====
section
/-! DEFINITION. The shared operations: time, updates of one part of the state, valve issue and pump stop, status
requests, and the changes of line state that several commands make (stop, further cause, suspension, completion
of a stop). -/

namespace Sys2Proof.Machine

/-! ### Intervals of the part, in microseconds -/

/-- The metering tick interval (R20). -/
def tickInterval : Micros := 100000
/-- The glitch filter's least spacing (R2). -/
def glitchSpacing : Micros := 200
/-- The age above which a temperature is held (R27). -/
def freshAge : Micros := 3000000
/-- The age above which a temperature is lost (R94). -/
def lostAge : Micros := 30000000
/-- The air-clear time (R91). -/
def airClearTime : Micros := 2000000
/-- The air-silence time (R93). -/
def airSilenceTime : Micros := 5000000
/-- The confirmation window (R102). -/
def confirmWindow : Micros := 500000
/-- The retry interval of an escalated CLOSE (R110). -/
def retryInterval : Micros := 2000000
/-- The relock time (R154). -/
def relockTime : Micros := 900000000
/-- The wake delay (R199). -/
def wakeDelayTime : Micros := 50000
/-- The volume limit of a delivery (R82). -/
def volumeLimit : Volume := 50000000

/-! ### Arithmetic (spec/00, 6.3) -/

/-- Addition that stops at a greatest value. -/
def satAdd (top a b : Nat) : Nat := min top (a + b)

/-- A 16-bit saturating rise by one. -/
def sat16 (n : Nat) : Nat := satAdd 65535 n 1

/-- Division of an exact quotient rounded half away from zero. -/
def divHalfAway (a d : Int) : Int :=
  if 0 ≤ a then (2 * a + d) / (2 * d) else -((2 * -a + d) / (2 * d))

/-- Division of an exact quotient rounded half up. -/
def divHalfUp (a d : Int) : Int := (2 * a + d) / (2 * d)

/-- A value brought to the nearest end of a range. -/
def clampInt (lo hi x : Int) : Int := max lo (min hi x)

/-! ### Updates of one part of the state -/

/-- The state with one line's controller changed. -/
def State.modLine (s : State) (l : LineId) (f : Line → Line) : State :=
  { s with line := s.line.set l (f (s.line.get l)) }

/-- The state with the kept items of one line changed. -/
def State.modKept (s : State) (l : LineId) (f : LineCopy → LineCopy) : State :=
  s.modLine l fun ln => { ln with kept := f ln.kept }

/-- The state with one line's delivery context changed, where it holds one. -/
def State.modCtx (s : State) (l : LineId) (f : Delivery → Delivery) : State :=
  s.modKept l fun k => { k with ctx := k.ctx.map f }

/-- The state with one pulse input changed. -/
def State.modPulse (s : State) (l : LineId) (f : PulseInput → PulseInput) : State :=
  { s with pulse := s.pulse.set l (f (s.pulse.get l)) }

/-- The state with one valve record changed. -/
def State.modValve (s : State) (l : LineId) (f : ValveRecord → ValveRecord) : State :=
  { s with valve := s.valve.set l (f (s.valve.get l)) }

/-- The state with one compartment record changed. -/
def State.modCompartment (s : State) (c : CompartmentNo) (f : Compartment → Compartment) : State :=
  { s with compartments := s.compartments.set c (f s.compartments[c]) }

/-- The line state of a line. -/
def State.lineState (s : State) (l : LineId) : LineState := (s.line.get l).kept.state

/-- The delivery context of a line. -/
def State.ctx (s : State) (l : LineId) : Option Delivery := (s.line.get l).kept.ctx

/-! ### Time (entries 4 and 5) -/

/-- The time base reaches the instant `t`, or stays where it is when `t` has passed. The clock counts the seconds
of the time base (R185); what stands still in park is measured on `awake`. -/
def advanceTo (t : Micros) (s : State) : State :=
  { s with
    now := max s.now t
    awake := s.awake + (if s.power.parked then 0 else max s.now t - s.now)
    clock := { s.clock with
      count := (s.clock.count + (max s.now t / 1000000 - s.now / 1000000)) % 4294967296 } }

/-- A timer is running and its deadline is reached. -/
def timerDue (timer : Timer) (clock : Micros) : Bool :=
  match timer with
  | none => false
  | some d => d ≤ clock

/-! ### Line states -/

/-- FLOWING and SLOWDOWN, the states in which a valve is open (R70). -/
def LineState.flows : LineState → Bool
  | .flowing | .slowdown => true
  | _ => false

/-- FINISHED, PAUSED, SUSPENDED and INTERRUPTED, the holding states (R97). -/
def LineState.holds : LineState → Bool
  | .paused | .finished | .suspended | .interrupted => true
  | _ => false

/-- The states in which a tick routes to the delivery (R35). -/
def LineState.routes : LineState → Bool
  | .flowing | .slowdown | .stopping | .airHold => true
  | st => st.holds

/-- The line state that a resume state names (R90). -/
def ResumeState.toLineState : ResumeState → LineState
  | .flowing => .flowing
  | .slowdown => .slowdown

/-- The line state that a stop target names (R87). -/
def targetState : StopTarget → LineState
  | .paused => .paused
  | .finished => .finished
  | .suspended => .suspended

/-- The target of a stop cause (R85). -/
def causeTarget : StopCause → StopTarget
  | .pulserFault | .reverseFlow | .tempLost | .airTimeout | .emergencyStop | .valveFault => .suspended
  | .volumeLimit | .preset | .compartmentLow | .operatorStop => .finished
  | .operatorPause | .noFlow | .powerLoss => .paused

/-- The more severe of two targets (R85). -/
def worseTarget (a b : StopTarget) : StopTarget := if a.code < b.code then b else a

/-- The most severe target of several causes; PAUSED, the least, for none. -/
def worstTarget (causes : List StopCause) : StopTarget :=
  causes.foldl (fun t c => worseTarget t (causeTarget c)) .paused

/-- A fault set holds a cause. -/
def faultIn (f : FaultSet) (c : StopCause) : Bool := f.getLsbD c.code

/-- A fault set with a cause added. -/
def addFault (f : FaultSet) (c : StopCause) : FaultSet := f ||| BitVec.twoPow 13 c.code

/-- A fault set with several causes added. -/
def addFaults (f : FaultSet) (causes : List StopCause) : FaultSet := causes.foldl addFault f

/-- The fault set that holds one cause and no other. -/
def onlyFault (c : StopCause) : FaultSet := addFault 0 c

/-! ### Status requests (R172) -/

/-- The line status request of a line is raised; a pending one stays one (R172). -/
def raiseLineStatus (l : LineId) (s : State) : State :=
  { s with reports := { s.reports with lines := s.reports.lines.set l true } }

/-- The device status request is raised (R172). -/
def raiseDeviceStatus (s : State) : State :=
  { s with reports := { s.reports with device := true } }

/-! ### Valves (R103, R113) -/

/-- A stage is issued to a line's valve (R103). -/
def issueStage (l : LineId) (st : Stage) (s : State) : State :=
  s.modValve l fun v =>
    { v with commanded := st, sendCount := 1, confirmed := false, confirmTimer := some (s.awake + confirmWindow),
             escalated := false, retryTimer := none, slot := some st }

/-- The commanded stage is placed in the slot again, and the window started again (R106, R108, R109). -/
def resendStage (l : LineId) (count : Nat) (s : State) : State :=
  s.modValve l fun v =>
    { v with sendCount := count, confirmed := false, confirmTimer := some (s.awake + confirmWindow),
             slot := some v.commanded }

/-- A pump stop is placed; it replaces a pending one (R113). -/
def placePumpStop (reason : PumpReason) (line : Option LineId) (s : State) : State :=
  { s with pumpSlot := some { reason := reason, line := line } }

/-- The run volume: billed of a DELIVERY, gross of a FLUSH (R70). -/
def runVolume (d : Delivery) : Volume :=
  match d.kind with
  | .delivery => d.billed
  | .flush => d.gross

/-- The run volume of a line; 0 with no context. -/
def lineRunVolume (s : State) (l : LineId) : Volume :=
  match s.ctx l with
  | none => 0
  | some d => runVolume d

/-- The stage that a line's state calls for (R70). -/
def stageFor (s : State) (l : LineId) : Stage :=
  match s.lineState l with
  | .flowing => if lineRunVolume s l < (s.settings.lines.get l).softStart then .openSlow else .openFull
  | .slowdown => .openSlow
  | _ => .close

/-- The line controller asks for the stage that its state calls for, whenever that differs from the stage in
effect (R70). -/
def askStage (l : LineId) (s : State) : State :=
  if stageFor s l = (s.valve.get l).commanded then s else issueStage l (stageFor s l) s

/-! ### Changes of line state -/

/-- A line enters a state, with everything that every such change brings: the no-flow timer runs on in FLOWING and
SLOWDOWN alone (R89), the air-hold timer and the resume state are kept in AIR_HOLD alone (R85, R91, R92, R96), the
report timer runs outside IDLE (R186), a line status request is raised and the valve stage asked for (R70). -/
def enterState (l : LineId) (st : LineState) (s : State) : State :=
  askStage l <| raiseLineStatus l <| s.modLine l fun ln =>
    { ln with
      kept := { ln.kept with state := st }
      noFlow := if st.flows then ln.noFlow else none
      airHold := if st = .airHold then ln.airHold else none
      resume := if st = .airHold then ln.resume else none
      report :=
        if st = .idle then none
        else if ln.kept.state = .idle then some (s.awake + s.settings.reportInterval * 1000)
        else ln.report }

/-- A line enters STOPPING on one or more stop causes, of which the first becomes the stop cause (R85). -/
def enterStopping (l : LineId) (causes : List StopCause) (s : State) : State :=
  let s := s.modCtx l fun d =>
    { d with stopCause := causes.head?, faults := addFaults d.faults causes, stopTarget := some (worstTarget causes) }
  let s := s.modLine l fun ln => { ln with airInStop := ln.airFlag }
  enterState l .stopping s

/-- Further stop causes reach a line in STOPPING: they join the fault set and may raise the target (R86). -/
def furtherCauses (l : LineId) (causes : List StopCause) (s : State) : State :=
  s.modCtx l fun d =>
    { d with faults := addFaults d.faults causes,
             stopTarget := some (worseTarget (d.stopTarget.getD .paused) (worstTarget causes)) }

/-- A line enters SUSPENDED at once on one or more faults: the stop cause is kept where there is one (R95, R96). DESIGN
CHOICE, entry 47: where a line without a stop cause meets PULSER_FAULT and REVERSE_FLOW in one tick, R95 does not say
which becomes the stop cause; it is the first of the list, PULSER_FAULT as R94 lists the faults. -/
def enterSuspended (l : LineId) (causes : List StopCause) (s : State) : State :=
  enterState l .suspended <| s.modCtx l fun d =>
    { d with faults := addFaults d.faults causes, stopCause := d.stopCause <|> causes.head?,
             stopTarget := some .suspended }

/-- A cause reaches a line that PAUSE, STOP, EMERGENCY STOP or POWER_FAIL acts on: a stop from a flowing line or from
AIR_HOLD (R85), a further cause in STOPPING (R86), nothing in another state. -/
def stopOn (l : LineId) (c : StopCause) (s : State) : State :=
  match s.lineState l with
  | .flowing | .slowdown | .airHold => enterStopping l [c] s
  | .stopping => furtherCauses l [c] s
  | _ => s

/-- A line enters AIR_HOLD with a resume state: the air-hold timer is started with its setting, and AIR_SEEN set
(R90). -/
def enterAirHold (l : LineId) (back : ResumeState) (s : State) : State :=
  let s := s.modCtx l fun d => { d with flags := { d.flags with airSeen := true } }
  let s := s.modLine l fun ln =>
    { ln with resume := some back, airHold := some (s.awake + s.settings.airHold * 1000000) }
  enterState l .airHold s

/-! ### Thresholds (R82) -/

/-- The slowdown threshold of a delivery. -/
def slowdownThreshold (s : State) (l : LineId) (d : Delivery) : Option Volume :=
  match d.kind with
  | .delivery => d.preset.map (· - (s.settings.lines.get l).slowdown)
  | .flush => none

/-- The stop threshold of a delivery. -/
def stopThreshold (s : State) (l : LineId) (d : Delivery) : Option Volume :=
  match d.kind with
  | .delivery => d.preset.map fun p => max (p - (s.settings.lines.get l).closeAhead) (p / 2)
  | .flush => none

/-- A volume has reached a threshold, where there is one. -/
def reached (threshold : Option Volume) (v : Volume) : Bool :=
  match threshold with
  | none => false
  | some t => t ≤ v

/-! ### Completion of STOPPING (R87, R88) -/

/-- The settings with a line's close-ahead replaced. -/
def setCloseAhead (l : LineId) (v : Volume) (st : Settings) : Settings :=
  { st with lines := st.lines.set l { st.lines.get l with closeAhead := v } }

/-- A delivery's stop is one that adapts the close-ahead: it stopped on PRESET, the preset is 50,000 mL or more, no air
was seen in the stop and no other cause is in the fault set (R88). -/
def adapts (d : Delivery) (airInStop : Bool) : Bool :=
  d.stopCause = some .preset && d.faults = onlyFault .preset && !airInStop &&
    (match d.preset with
     | none => false
     | some p => decide (50000 ≤ p))

/-- The close-ahead after an adaptation: a quarter of the error, truncated toward zero, clamped (R88). -/
def adaptedCloseAhead (d : Delivery) (present : Volume) : Volume :=
  clampInt 0 5000 (present + Int.tdiv (d.billed - d.preset.getD 0) 4)

/-- The close-ahead adaptation of a completion (R88): the value in effect and the stored value. -/
def adaptCloseAhead (l : LineId) (s : State) : State :=
  match s.ctx l with
  | none => s
  | some d =>
    if adapts d (s.line.get l).airInStop then
      let v := adaptedCloseAhead d (s.settings.lines.get l).closeAhead
      { s with settings := setCloseAhead l v s.settings, storedSettings := setCloseAhead l v s.storedSettings }
    else s

/-- The valve driver reports the line's CLOSE confirmed (R102). -/
def closeConfirmed (s : State) (l : LineId) : Bool :=
  decide ((s.valve.get l).commanded = .close) && (s.valve.get l).confirmed

/-- A line in STOPPING enters its stop target when its CLOSE is confirmed and its flow rate is 0 (R87). With no context,
which no run reaches, nothing happens (entry 30). -/
def completeStopping (l : LineId) (s : State) : State :=
  if s.lineState l = .stopping ∧ closeConfirmed s l = true ∧ (s.pulse.get l).flow = 0 then
    match s.ctx l with
    | none => s
    | some d =>
      let s := adaptCloseAhead l s
      let s := s.modLine l fun ln => { ln with airInStop := false }
      enterState l (targetState (d.stopTarget.getD .paused)) s
  else s

/-! ### Wake (R18, R27, R178, R199, R20) -/

/-- A pulse input at wake: counts, references and last channel kept, the period timer restarted (R18). -/
def wakePulse (at_ : Micros) (p : PulseInput) : PulseInput :=
  { p with timerStart := at_, periodStart := false, flow := 0 }

/-- A line controller at wake: the temperature discarded, the first tick 100 ms after (R27, R20). -/
def wakeLine (at_ : Micros) (ln : Line) : Line := { ln with temp := none, nextTick := at_ + tickInterval }

/-- The actions of the wake event, without a wake delay (R199; R194 for a power failure in park). No frame is in
transmission after wake (R176; entry 23). -/
def wakeActions (s : State) : State :=
  { s with
    power := { s.power with parked := false }
    pulse := { line1 := wakePulse s.awake s.pulse.line1, line2 := wakePulse s.awake s.pulse.line2 }
    line := { line1 := wakeLine s.awake s.line.line1, line2 := wakeLine s.awake s.line.line2 }
    port := { s.port with previous := none }
    forward := { s.forward with txField := none, txCab := none } }

/-- The wake event at a wake source: the wake delay of 50 ms begins (R199). -/
def wakeEvent (s : State) : State :=
  let s := wakeActions s
  { s with power := { s.power with wakeDelay := some (s.awake + wakeDelayTime) } }

/-! ### Answers of the owning blocks (R178, R179) -/

/-- What an owner answers to a command: one response, the two parts of a record, or none yet, because the command is
in flight until its journal write completes. -/
inductive Answer where
  | reply (status : Status) (data : List Byte)
  | record (part1 part2 : List Byte)
  | inFlight
  deriving DecidableEq, Repr

/-- A refusal, or an OK with no data. -/
def plain (st : Status) : Answer := .reply st []

/-! ### Lock -/

/-- A delivery that begins or goes on flowing while the lock is not LOCKED carries CAL_UNLOCKED (R159). -/
def lockIsOpen (s : State) : Bool := decide (s.lock.state ≠ .locked)

end Sys2Proof.Machine
end

