-- ==== Sys2Proof/Machine/Conversion.lean ====
section
/-! DEFINITION. The arithmetic of volume conversion (spec/02): band and meter factor, gross and net increments, the
volume-correction factor, the average temperature and the amount. -/

namespace Sys2Proof.Machine

/-- The used band with the greatest lower bound not above the flow rate; entry 0 where there is none (R22). -/
def selectBand (bands : List Band) (flow : Nat) : Band :=
  bands.foldl (fun best b => if b.lower ≤ flow ∧ best.lower ≤ b.lower then b else best)
    (bands.headD { lower := 0, correction := 0 })

/-- The meter factor M (R22). -/
def meterFactor (b : Band) : Int := 1000000 + b.correction

/-- The volume-correction factor before the clamp (R30, steps 1 to 4). -/
def rawVcf (p : Product) (temperature : Int) : Int :=
  let dT := temperature - p.tref
  1000000 - divHalfAway (p.alpha * dT) 100 + divHalfUp (p.beta * dT * dT) 10000000

/-- The clamp of the volume-correction factor (R30, step 5). -/
def clampVcf (v : Int) : Int := clampInt 900000 1100000 v

/-- What a tick's conversion gives. -/
structure Converted where
  gross : Volume
  net : Volume
  grossRem : Int
  netRem : Int
  deriving DecidableEq, Repr

/-- The increments and new remainders of a tick with `n` pulses, K-factor `k`, meter factor `m` and factor `vcf`
(R21, R23, R31). The divisors are positive, so `/` is the floored division. -/
def convert (k : Nat) (n m vcf grossRem netRem : Int) : Converted :=
  if k = 0 then { gross := 0, net := 0, grossRem := grossRem, netRem := netRem }
  else
    let ng := n * 1000 * m + grossRem
    let nn := n * 1000 * m * vcf + netRem
    { gross := ng / (k * 1000000)
      net := nn / (k * 1000000000000)
      grossRem := ng - ng / (k * 1000000) * (k * 1000000)
      netRem := nn - nn / (k * 1000000000000) * (k * 1000000000000) }

/-- The average temperature of a delivery (R37). -/
def averageOf (d : Delivery) : Option Int :=
  if 0 < d.tempGross then some (divHalfAway d.sumTG d.tempGross) else none

/-- The amount in cents of a billed volume at a price in mills per litre (R38). -/
def amountOf (billed : Volume) (price : Nat) : Nat :=
  if billed ≤ 0 then 0 else min 4294967295 (divHalfUp (billed * price) 10000).toNat

/-- The amount of a delivery context: absent for a FLUSH (R38, R98). -/
def deliveryAmount (d : Delivery) : Option Nat :=
  match d.kind with
  | .delivery => some (amountOf d.billed (d.price.getD 0))
  | .flush => none

/-- The age classes, in the order of their codes (R27, R192). -/
inductive AgeClass where
  | absent
  | fresh
  | held
  deriving DecidableEq, Repr

/-- Age class codes. -/
def AgeClass.code : AgeClass → Nat
  | .absent => 0
  | .fresh => 1
  | .held => 2

/-- The age of a sample on the time base (R27). -/
def sampleAge (awake : Micros) (t : Sample) : Micros := awake - t.since

/-- The age class of a line's temperature: fresh for 3 s or less, held for more (R27). -/
def ageClass (awake : Micros) (temp : Option Sample) : AgeClass :=
  match temp with
  | none => .absent
  | some t => if sampleAge awake t ≤ freshAge then .fresh else .held

/-- The product whose coefficients a tick converts with (R28). -/
def tickProduct (s : State) (l : LineId) : Option Product :=
  match s.lineState l with
  | .idle =>
    match (s.line.get l).kept.hose with
    | .product p => if s.cal.products[p].defined then some s.cal.products[p] else none
    | _ => none
  | _ => (s.ctx l).map fun d => s.cal.products[d.product]

/-- The factor of a tick before the clamp, where it has a product and a temperature (R28 to R30). -/
def tickRawVcf (s : State) (l : LineId) : Option Int :=
  match tickProduct s l, (s.line.get l).temp with
  | some p, some t => some (rawVcf p t.value)
  | _, _ => none

/-- The volume-correction factor of a tick (R28 to R30). -/
def tickVcf (s : State) (l : LineId) : Int :=
  match tickRawVcf s l with
  | some v => clampVcf v
  | none => 1000000

/-- The clamp acts at this tick (R30). -/
def tickClamps (s : State) (l : LineId) : Bool :=
  match tickRawVcf s l with
  | some v => decide (clampVcf v ≠ v)
  | none => false

end Sys2Proof.Machine
end

