-- ==== Sys2Proof/Machine/Journal.lean ====
section
/-! DEFINITION. The ticket journal's operations (spec/07): places, reservations, numbers, the write queue, the
building of records, release, and the repair of power-on. -/

namespace Sys2Proof.Machine

/-- The places of the journal (R117). -/
def journalPlaces : Nat := 1024

/-- The empty places (R117; entry 10). -/
def emptyPlaces (j : Journal) : Nat := journalPlaces - (j.records.length + j.reservations.length)

/-- The greatest 32-bit number (R120). -/
def lastNumber : Nat := 4294967295

/-- A place is available: empty, or held by a released record (R119). -/
def placeAvailable (j : Journal) : Bool := decide (0 < emptyPlaces j) || j.records.any (·.released)

/-- P: the reservations with no sequence number yet (R120). -/
def promisedSequences (j : Journal) : Nat := (j.reservations.filter (·.sequence.isNone)).length

/-- Q: the DELIVERY reservations with no ticket number yet. Both numbers are assigned at END, so these are the
DELIVERY reservations with no sequence number (R120, R123; entry 31). -/
def promisedTickets (j : Journal) : Nat :=
  (j.reservations.filter fun r => decide (r.kind = .delivery) && r.sequence.isNone).length

/-- The numbering test of a reservation (R120). -/
def numberingPasses (j : Journal) (kind : RecordKind) : Bool :=
  decide (j.newestSeq + promisedSequences j + 1 ≤ lastNumber) &&
    (decide (kind ≠ .delivery) || decide (j.newestTicket + promisedTickets j + 1 ≤ lastNumber))

/-- A reservation request would be granted (R119). -/
def canReserve (j : Journal) (kind : RecordKind) : Bool := placeAvailable j && numberingPasses j kind

/-- The sequence number of the oldest released record (R119). -/
def oldestReleased (j : Journal) : Option Nat := ((j.records.filter (·.released)).map (·.sequence)).min?

/-- The journal without the oldest released record (R119, eviction). -/
def evictOldest (j : Journal) : Journal :=
  { j with records := j.records.filter fun r => !(r.released && decide (some r.sequence = oldestReleased j)) }

/-- A granted reservation: an empty place where there is one, else the place of the oldest released record (R119). -/
def reserve (holder : Holder) (kind : RecordKind) (j : Journal) : Journal :=
  let j := if 0 < emptyPlaces j then j else evictOldest j
  { j with reservations := j.reservations ++ [{ holder := holder, kind := kind, sequence := none }] }

/-- A holder's reservation is returned: its place becomes empty (R122). -/
def returnReservation (holder : Holder) (j : Journal) : Journal :=
  { j with reservations := j.reservations.filter fun r => decide (r.holder ≠ holder) }

/-- A write request: the next sequence number, its entry in the directory, and the write at the tail (R125). -/
def requestWrite (holder : Holder) (contents : Contents) (j : Journal) : Journal :=
  { j with
    newestSeq := j.newestSeq + 1
    reservations := j.reservations.map fun r =>
      if r.holder = holder then { r with sequence := some (j.newestSeq + 1) } else r
    queue := j.queue ++ [{ holder := holder, sequence := j.newestSeq + 1, contents := contents }] }

/-- The kind of record that a holder's reservation becomes. -/
def reservedKind (j : Journal) (holder : Holder) : Option RecordKind :=
  (j.reservations.find? fun r => decide (r.holder = holder)).map (·.kind)

/-- The check value over the stored fields of a record, as the record now stands in the store (R126, R128). -/
def JournalRecord.computedCheck (r : JournalRecord) : Nat :=
  Config.checkValue r.sequence r.kind (storedBytes r.kind r.contents)

/-- A record is INTACT when the check value recomputed at a read agrees with the stored one, and DAMAGED when they
differ (R128). -/
def JournalRecord.intact (r : JournalRecord) : Bool := decide (r.check = r.computedCheck)

/-- The record that a write leaves: unreleased, with the check value over its fields (R126, R127). R126 computes that
value when the write starts; no field of a queued write changes before its completion, so it is the same value. -/
def writtenRecord (w : JournalWrite) (kind : RecordKind) : JournalRecord :=
  { sequence := w.sequence, kind := kind, released := false, contents := .written w.contents,
    check := Config.checkValue w.sequence kind (storedBytes kind (.written w.contents)) }

/-- The place of a completed write becomes an unreleased record, and the newest written rises (R127). -/
def placeRecord (w : JournalWrite) (kind : RecordKind) (j : Journal) : Journal :=
  { j with
    records := j.records ++ [writtenRecord w kind]
    reservations := j.reservations.filter fun r => decide (r.holder ≠ w.holder)
    newestWritten := max j.newestWritten w.sequence }

/-- The kind of record that a write's contents and reservation give. -/
def writeKind (j : Journal) (w : JournalWrite) : RecordKind :=
  match w.contents with
  | .calibration _ => .calibration
  | .delivery _ => (reservedKind j w.holder).getD .delivery

/-- The journal after the completion of the write at the head (R127). -/
def completeWrite (w : JournalWrite) (rest : List JournalWrite) (j : Journal) : Journal :=
  { placeRecord w (writeKind j w) j with queue := rest }

/-- Every unreleased record up to `sequence` becomes released (R131). -/
def releaseThrough (sequence : Nat) (j : Journal) : Journal :=
  { j with records := j.records.map fun r => if r.sequence ≤ sequence then { r with released := true } else r }

/-- The number of records that a release changes (R131). -/
def releasedBy (sequence : Nat) (j : Journal) : Nat :=
  (j.records.filter fun r => !r.released && decide (r.sequence ≤ sequence)).length

/-- The kind of record of a delivery context (R123). -/
def DeliveryKind.recordKind : DeliveryKind → RecordKind
  | .delivery => .delivery
  | .flush => .flush

/-- The record of a delivery context (R123), with the average temperature (R37) and the amount (R38) of its final
values. -/
def buildRecord (s : State) (l : LineId) (d : Delivery) : DeliveryRecord :=
  { ticket := d.ticket, line := l, order := d.order, customer := d.customer, product := d.product,
    compartment := d.compartment, startTime := d.startTime, endTime := d.endTime, gross := d.gross, net := d.net,
    basis := s.cal.products[d.product].basis, billed := d.billed, unbilled := d.unbilled, average := averageOf d,
    price := d.price, amount := deliveryAmount d, preset := d.preset, stopCause := d.stopCause, faults := d.faults,
    flags := d.flags, reversePulses := d.reversePulses, integrityErrors := d.integrityErrors,
    unattendedBefore := d.unattendedBefore, eventCount := d.eventCount }

/-- A record with a sequence number (R129). -/
def findRecord (j : Journal) (sequence : Nat) : Option JournalRecord :=
  j.records.find? fun r => decide (r.sequence = sequence)

/-- The newest CALIBRATION record (R135). -/
def newestCalibration (j : Journal) : Option JournalRecord :=
  let records := j.records.filter fun r => decide (r.kind = .calibration)
  ((records.map (·.sequence)).max?).bind fun q => records.find? fun r => decide (r.sequence = q)

/-- The journal without the record of a sequence number (R135, discard). -/
def discardRecord (sequence : Nat) (j : Journal) : Journal :=
  { j with records := j.records.filter fun r => decide (r.sequence ≠ sequence) }

/-- A line's copy names a reservation: it holds a delivery (R134). -/
def namesReservation (copy : LineCopy) : Bool := decide (copy.state ≠ .idle) && copy.ctx.isSome

/-- The power-on repair: reservations of restored lines are kept, every other one emptied; the queue is empty
(R134). -/
def repairReservations (store : PerLine LineCopy) (j : Journal) : Journal :=
  { j with
    queue := []
    reservations := j.reservations.filter fun r =>
      match r.holder with
      | .line l => namesReservation (store.get l)
      | .calibration => false }

/-- A line restored in CLOSING requests the rewrite of its record with the sequence number of its reservation
(R136). -/
def requestRewrite (s : State) (l : LineId) : State :=
  match s.lineState l, s.ctx l, s.journal.reservations.find? (fun r => decide (r.holder = .line l)) with
  | .closing, some d, some r =>
    match r.sequence with
    | none => s
    | some q =>
      { s with journal := { s.journal with
          queue := s.journal.queue ++ [{ holder := .line l, sequence := q, contents := .delivery (buildRecord s l d) }] } }
  | _, _, _ => s

end Sys2Proof.Machine
end

