-- ==== Sys2Proof/Machine/Flags.lean ====
section
/-! DEFINITION. The device conditions (R188): which are active, computed from their causes, their bits and the
principal condition; and the settling of an event, which stores the line contexts and reports a change of the
condition set. -/

namespace Sys2Proof.Machine

/-- The condition set (R188). -/
structure Conditions where
  holdup : Bool
  valveFault : Bool
  journalFull : Bool
  journalDamage : Bool
  lockout : Bool
  linkFault : Bool
  clockUnset : Bool
  unattendedFlow : Bool
  deriving DecidableEq, Repr

/-- A line is SUSPENDED with VALVE_FAULT in its fault set (R188). -/
def valveFaulted (ln : Line) : Bool :=
  decide (ln.kept.state = .suspended) &&
    match ln.kept.ctx with
    | none => false
    | some d => faultIn d.faults .valveFault

/-- A line's accumulator is 1,000 mL or more (R36, R188). -/
def unattendedHigh (ln : Line) : Bool := decide (1000 ≤ ln.kept.unattended)

/-- The conditions that are active, each as its cause stands (R121, R188). -/
def conditions (s : State) : Conditions :=
  { holdup := s.power.holdup
    valveFault := valveFaulted s.line.line1 || valveFaulted s.line.line2
    journalFull := !canReserve s.journal .delivery
    journalDamage := s.journalDamage
    lockout := decide (s.lock.attempts = 0)
    linkFault := s.forward.cabOff || s.forward.fieldOff
    clockUnset := !s.clock.isSet
    unattendedFlow := unattendedHigh s.line.line1 || unattendedHigh s.line.line2 }

/-- The conditions in the order of their ranks (R188). -/
def Conditions.ranked (c : Conditions) : List Bool :=
  [c.holdup, c.valveFault, c.journalFull, c.journalDamage, c.lockout, c.linkFault, c.clockUnset, c.unattendedFlow]

/-- The condition bits: rank − 1 (R192). -/
def Conditions.bits (c : Conditions) : Nat := presence c.ranked

/-- The rank of the principal condition, 0 when the set is empty (R189, R192). -/
def Conditions.principal (c : Conditions) : Nat :=
  match c.ranked.findIdx? id with
  | none => 0
  | some i => i + 1

/-- The persistent copies as the line contexts stand (R193). -/
def copies (s : State) : PerLine LineCopy := { line1 := s.line.line1.kept, line2 := s.line.line2.kept }

/-- The end of every event: the line context store takes the line contexts (R193), and a change of the condition set
raises the device status request (R189). All stores stand together at the end of the event (entry 36). -/
def settle (before after : State) : State :=
  let after := { after with store := copies after }
  if conditions after = conditions before then after else raiseDeviceStatus after

/-- An event at the powered part. While the part has no supply, nothing happens (entry 7). -/
def event (f : State → State) (s : State) : State := if s.power.on then settle s (f s) else s

/-- An event of the time base, taken at the instant `t` (entry 4). -/
def timedEvent (t : Micros) (f : State → State) (s : State) : State := event (fun s => f (advanceTo t s)) s

end Sys2Proof.Machine
end

