-- ==== Sys2Proof/Machine/Pulse.lean ====
section
/-! DEFINITION. The pulse inputs (spec/01): glitch filter, alternation checker, counts, period timer and flow rate. -/

namespace Sys2Proof.Machine

/-- The period timer's value: 0 to 65,535 µs since its last restart, modulo 65,536 (R6). -/
def periodTimer (awake : Micros) (p : PulseInput) : Nat := (awake - p.timerStart) % 65536

/-- The overflow count, saturating at 31 (R6). -/
def overflowCount (awake : Micros) (p : PulseInput) : Nat := min 31 ((awake - p.timerStart) / 65536)

/-- The arrival of the overflow count at 31: no flow, no period start (R6). -/
def overflowPulse (p : PulseInput) : PulseInput := { p with flow := 0, periodStart := false }

/-- The overflow event, where the count stands at 31 (R6). -/
def settleOverflow (awake : Micros) (p : PulseInput) : PulseInput :=
  if overflowCount awake p = 31 then overflowPulse p else p

/-- The glitch filter's test of an edge against its channel's reference (R2). -/
def glitchAccepts (ref : Option Micros) (now : Micros) : Bool :=
  match ref with
  | none => true
  | some r => glitchSpacing ≤ now - r

/-- One integrity error more, pending (R5). -/
def addIntegrityError (p : PulseInput) : PulseInput := { p with errors := sat16 p.errors }

/-- The alternation checker judges an accepted edge (R4). -/
def checkAlternation (c : Channel) (p : PulseInput) : PulseInput :=
  let p := if p.last = some c then addIntegrityError p else p
  { p with last := some c }

/-- The flow rate that a captured period gives at a K-factor (R8). -/
def flowOfPeriod (k period : Nat) : Nat := if k = 0 then 0 else min 65535 (600000000 / (period * k))

/-- A period is captured: overflow count 30 or less and period start present (R7). -/
def captures (awake : Micros) (p : PulseInput) : Bool := decide (overflowCount awake p ≤ 30) && p.periodStart

/-- The captured period (R7). -/
def capturedPeriod (awake : Micros) (p : PulseInput) : Nat := overflowCount awake p * 65536 + periodTimer awake p

/-- A forward pulse at the period timer: capture where there is one, then restart (R7, R8). -/
def forwardTiming (awake : Micros) (k : Nat) (p : PulseInput) : PulseInput :=
  { p with
    flow := if captures awake p then flowOfPeriod k (capturedPeriod awake p) else p.flow
    timerStart := awake
    periodStart := true }

/-- A reverse pulse at the period timer: flow rate 0, restart without capture (R9). -/
def reverseTiming (awake : Micros) (p : PulseInput) : PulseInput :=
  { p with flow := 0, timerStart := awake, periodStart := false }

/-- The count of an accepted A edge: reverse when B is high, else forward (R1, R3). -/
def countPulse (bHigh : Bool) (p : PulseInput) : PulseInput :=
  if bHigh then { p with reverse := sat16 p.reverse } else { p with forward := sat16 p.forward }

/-- The period timer's part of an accepted A edge; in park the timer is stopped (R7, R9, R17). -/
def timePulse (parked bHigh : Bool) (awake : Micros) (k : Nat) (p : PulseInput) : PulseInput :=
  if parked then p else if bHigh then reverseTiming awake p else forwardTiming awake k p

/-- An accepted A rising edge (R2 to R4, R7, R9). -/
def acceptA (parked bHigh : Bool) (now awake : Micros) (k : Nat) (p : PulseInput) : PulseInput :=
  timePulse parked bHigh awake k <| countPulse bHigh <| checkAlternation .a { p with refA := some now }

/-- An A rising edge (R1, R2). -/
def edgeA (parked bHigh : Bool) (now awake : Micros) (k : Nat) (p : PulseInput) : PulseInput :=
  if glitchAccepts p.refA now then acceptA parked bHigh now awake k p else addIntegrityError p

/-- A B rising edge: it acts on the alternation checker alone (R1, R2). -/
def edgeB (now : Micros) (p : PulseInput) : PulseInput :=
  if glitchAccepts p.refB now then checkAlternation .b { p with refB := some now } else addIntegrityError p

/-- The level of a channel after an edge (R1). -/
def levelAfter (e : PulserEdge) (v : PulserLevels) : PulserLevels :=
  match e with
  | .rising .a => { v with a := true }
  | .rising .b => { v with b := true }
  | .falling .a => { v with a := false }
  | .falling .b => { v with b := false }

/-- An edge moves its input's level, with or without supply (R1; entry 41). -/
def setLevel (l : LineId) (e : PulserEdge) (s : State) : State :=
  { s with levels := s.levels.set l (levelAfter e (s.levels.get l)) }

/-- An edge at a line's pulse input. A falling edge has no effect beyond the channel's level (R1). An overflow that
lies before the edge has had its effect (R6; entry 32). An A edge is taken with the level of the B input (R1). An
accepted A edge wakes a parked part (R17, R199). -/
def takeEdge (l : LineId) (e : PulserEdge) (s : State) : State :=
  let s := s.modPulse l (settleOverflow s.awake)
  match e with
  | .falling _ => s
  | .rising .b => s.modPulse l (edgeB s.now)
  | .rising .a =>
    let accepted := glitchAccepts (s.pulse.get l).refA s.now
    let s := s.modPulse l (edgeA s.power.parked (s.levels.get l).b s.now s.awake (s.cal.lines.get l).k)
    if s.power.parked && accepted then wakeEvent s else s

/-- The overflow event of a line's period timer, where it is due; in park the timer is stopped (R6, R17). -/
def takeOverflow (l : LineId) (s : State) : State :=
  if s.power.parked then s else s.modPulse l (settleOverflow s.awake)

end Sys2Proof.Machine
end

