-- ==== Sys2Proof/Machine/Metering.lean ====
section
/-! DEFINITION. The metering tick (R20): counts, conversion, routing, thresholds and fault tests. -/

namespace Sys2Proof.Machine

/-- The tick takes the pulse input's counts (R12); the flow rate and the working state stay. -/
def takeCounts (p : PulseInput) : PulseInput := { p with forward := 0, reverse := 0, errors := 0 }

/-- n, the forward count minus the reverse count (R12). -/
def netPulses (p : PulseInput) : Int := p.forward - p.reverse

/-- Integrity errors added to a 32-bit saturating count (R13). -/
def addErrors (count errors : Nat) : Nat := satAdd lastNumber count errors

/-- The integrity errors of a tick join the lifetime count, and the delivery count outside CLOSING (R13). -/
def countErrors (l : LineId) (errors : Nat) (s : State) : State :=
  let s := s.modKept l fun k => { k with lifetimeErrors := addErrors k.lifetimeErrors errors }
  if s.lineState l = .closing then s
  else s.modCtx l fun d => { d with integrityErrors := addErrors d.integrityErrors errors }

/-- The conversion of a tick (R21 to R23, R28 to R31). -/
def tickConversion (s : State) (l : LineId) (n : Int) (flow : Nat) : Converted :=
  let c := s.cal.lines.get l
  convert c.k n (meterFactor (selectBand c.bands flow)) (tickVcf s l)
    (s.line.get l).kept.grossRem (s.line.get l).kept.netRem

/-- The increments join the totalizers, and the remainders are carried (R23, R31, R34). -/
def addTotals (c : Converted) (k : LineCopy) : LineCopy :=
  { k with grossTotal := k.grossTotal + c.gross, netTotal := k.netTotal + c.net, grossRem := c.grossRem,
           netRem := c.netRem }

/-- A sum of reverse pulses in its 32 bits; beyond them free (R35, R123; entry 26). -/
def addReverse (count r : Nat) : Nat :=
  if count + r ≤ lastNumber then count + r else (Config.reversePulsesBeyond (count + r)).toNat

/-- The temperature and state flags of a tick that routes to a delivery (R29, R30, R35, R93). -/
def tickFlags (st : LineState) (n : Int) (age : AgeClass) (clamps silent : Bool) (f : Flags) : Flags :=
  { f with
    tempHeld := f.tempHeld || (decide (n ≠ 0) && decide (age = .held))
    tempAbsent := f.tempAbsent || (decide (n ≠ 0) && decide (age = .absent))
    vcfClamped := f.vcfClamped || (decide (n ≠ 0) && clamps)
    lateFlow := f.lateFlow || (decide (n ≠ 0) && st.holds)
    airUnmonitored := f.airUnmonitored || silent }

/-- The basis increment of a tick (R32). -/
def basisIncrement (b : Basis) (c : Converted) : Volume :=
  match b with
  | .gross => c.gross
  | .net => c.net

/-- The increments of a tick join the delivery (R35). -/
def routeDelivery (c : Converted) (basis : Basis) (airFlag : Bool) (r : Nat) (temp : Option Sample) (flags : Flags)
    (d : Delivery) : Delivery :=
  { d with
    gross := d.gross + c.gross
    net := d.net + c.net
    billed := if airFlag then d.billed else d.billed + basisIncrement basis c
    unbilled := if airFlag then d.unbilled + basisIncrement basis c else d.unbilled
    reversePulses := addReverse d.reversePulses r
    sumTG := match temp with
      | none => d.sumTG
      | some t => d.sumTG + c.gross * t.value
    tempGross := match temp with
      | none => d.tempGross
      | some _ => d.tempGross + c.gross
    flags := flags }

/-- Routing to the open delivery and to its compartment (R35, R49). -/
def routeToDelivery (l : LineId) (n : Int) (r : Nat) (c : Converted) (s : State) : State :=
  match s.ctx l with
  | none => s
  | some d =>
    let ln := s.line.get l
    let flags := tickFlags ln.kept.state n (ageClass s.awake ln.temp) (tickClamps s l) ln.airSilent d.flags
    let s := s.modCtx l (routeDelivery c s.cal.products[d.product].basis ln.airFlag r ln.temp flags)
    s.modCompartment d.compartment fun k => { k with remaining := k.remaining - c.net }

/-- Routing of a tick: to the delivery in its states, else to the unattended accumulator (R35, R36). -/
def route (l : LineId) (n : Int) (r : Nat) (c : Converted) (s : State) : State :=
  if (s.lineState l).routes then routeToDelivery l n r c s
  else s.modKept l fun k => { k with unattended := k.unattended + c.gross }

/-! ### Step 7: thresholds and fault tests -/

/-- PULSER_FAULT is met (R94). -/
def pulserFaultMet (s : State) (l : LineId) (d : Delivery) : Bool :=
  decide ((s.cal.lines.get l).integrityLimit < d.integrityErrors)

/-- REVERSE_FLOW is met (R94). -/
def reverseFlowMet (s : State) (l : LineId) (d : Delivery) : Bool :=
  decide (1 ≤ d.reversePulses) &&
    decide ((s.cal.lines.get l).reverseLimit * (s.cal.lines.get l).k ≤ d.reversePulses * 1000)

/-- TEMP_LOST is met (R94). -/
def tempLostMet (s : State) (l : LineId) : Bool :=
  match (s.line.get l).temp with
  | none => false
  | some t => decide (lostAge < sampleAge s.awake t)

/-- The held compartment is at its reserve or below (R50, R51). -/
def compartmentLow (s : State) (c : CompartmentNo) : Bool :=
  decide (s.compartments[c].remaining ≤ s.compartments[c].reserve)

/-- The causes whose test holds, in the order listed. -/
def metCauses (tests : List (Bool × StopCause)) : List StopCause := (tests.filter (·.1)).map (·.2)

/-- The faults of R94 that are tested outside FLOWING and SLOWDOWN. -/
def meterFaults (s : State) (l : LineId) (d : Delivery) : List StopCause :=
  metCauses [(pulserFaultMet s l d, .pulserFault), (reverseFlowMet s l d, .reverseFlow)]

/-- The stop causes that a tick of a FLOWING or SLOWDOWN line meets, in the order of R83. -/
def stopCauses (s : State) (l : LineId) (d : Delivery) : List StopCause :=
  metCauses
    [(pulserFaultMet s l d, .pulserFault), (reverseFlowMet s l d, .reverseFlow), (tempLostMet s l, .tempLost),
     (decide (volumeLimit ≤ d.billed), .volumeLimit), (reached (stopThreshold s l d) d.billed, .preset),
     (compartmentLow s d.compartment, .compartmentLow)]

/-- The slowdown and soft-start thresholds (R84). -/
def thresholdTest (l : LineId) (d : Delivery) (s : State) : State :=
  if s.lineState l = .flowing then
    if reached (slowdownThreshold s l d) d.billed then enterState l .slowdown s
    else if (s.valve.get l).commanded = .openSlow ∧ (s.settings.lines.get l).softStart ≤ runVolume d then
      raiseLineStatus l (issueStage l .openFull s)
    else s
  else s

/-- The no-flow timer at a tick that leaves the line in FLOWING or SLOWDOWN (R89). -/
def noFlowTest (l : LineId) (s : State) : State :=
  if (s.pulse.get l).flow = 0 then
    if (s.line.get l).noFlow = none then
      s.modLine l fun ln => { ln with noFlow := some (s.awake + (s.settings.lines.get l).noFlow * 1000000) }
    else s
  else s.modLine l fun ln => { ln with noFlow := none }

/-- A tick of a flowing line: stop causes, else thresholds and the no-flow timer (R83, R84, R89). -/
def flowingTest (l : LineId) (d : Delivery) (s : State) : State :=
  if stopCauses s l d = [] then noFlowTest l (thresholdTest l d s) else enterStopping l (stopCauses s l d) s

/-- What a fault met outside FLOWING and SLOWDOWN does (R95). -/
def faultTest (l : LineId) (faults : List StopCause) (s : State) : State :=
  if faults = [] then s
  else
    match s.lineState l with
    | .airHold => enterStopping l faults s
    | .stopping => furtherCauses l faults s
    | .paused | .finished | .interrupted => enterSuspended l faults s
    | .suspended => s.modCtx l fun d => { d with faults := addFaults d.faults faults }
    | _ => s

/-- Step 7 of a tick: thresholds and fault tests on the updated values (R83, R84, R89, R94, R95), then the completion
of a STOPPING (R87; entry 20). -/
def evaluate (l : LineId) (s : State) : State :=
  match s.ctx l with
  | none => s
  | some d =>
    let s := if (s.lineState l).flows then flowingTest l d s else faultTest l (meterFaults s l d) s
    completeStopping l s

/-- Steps 1 to 7 of a tick of a line (R20). Step 8 is the settling of the event. -/
def tick (l : LineId) (s : State) : State :=
  let p := s.pulse.get l
  let s := s.modPulse l takeCounts
  let s := countErrors l p.errors s
  let c := tickConversion s l (netPulses p) p.flow
  let s := s.modKept l (addTotals c)
  evaluate l (route l (netPulses p) p.reverse c s)

/-- A line's metering tick is due: every 100 ms, in every line state, not in park (R20). -/
def tickDue (s : State) (l : LineId) : Bool := !s.power.parked && decide ((s.line.get l).nextTick ≤ s.awake)

/-- A metering tick that the time base brings, where it is due (R20); the next falls 100 ms after this one was due
(entry 37). -/
def takeTick (l : LineId) (s : State) : State :=
  if tickDue s l then
    tick l (s.modLine l fun ln => { ln with nextTick := ln.nextTick + tickInterval })
  else s

/-! ### Timers of the line (R89, R186) -/

/-- The no-flow timer of a line has expired (R89). -/
def noFlowDue (s : State) (l : LineId) : Bool :=
  timerDue (s.line.get l).noFlow s.awake && (s.lineState l).flows && !s.power.parked

/-- Expiry of the no-flow timer, where it is due (R89). -/
def takeNoFlowExpiry (l : LineId) (s : State) : State := if noFlowDue s l then enterStopping l [.noFlow] s else s

/-- The report timer of a line has expired (R186). -/
def reportDue (s : State) (l : LineId) : Bool := timerDue (s.line.get l).report s.awake && !s.power.parked

/-- Expiry of the report timer, where it is due: the request is raised and the timer started again (R186). -/
def takeReportExpiry (l : LineId) (s : State) : State :=
  if reportDue s l then
    raiseLineStatus l (s.modLine l fun ln => { ln with report := some (s.awake + s.settings.reportInterval * 1000) })
  else s

end Sys2Proof.Machine
end

