-- ==== Sys2Proof/Machine/Valves.lean ====
section
/-! DEFINITION. The valve driver (spec/06): valve status, confirmation windows, failures, escalation and retries. -/

namespace Sys2Proof.Machine

/-- A close failure reaches the line (R96). -/
def reportCloseFailure (l : LineId) (s : State) : State :=
  match s.lineState l with
  | .idle | .armed | .closing => s
  | .suspended => s.modCtx l fun d => { d with faults := addFault d.faults .valveFault }
  | _ => enterSuspended l [.valveFault] s

/-- An open failure reaches the line; it arises in FLOWING and SLOWDOWN alone (R96, R106, R107). -/
def reportOpenFailure (l : LineId) (s : State) : State :=
  if (s.lineState l).flows then enterSuspended l [.valveFault] s else s

/-- Escalation of a close failure: pump stop, retries, and the report to the line (R110). The confirmation window is
over (entry 21). -/
def escalate (l : LineId) (s : State) : State :=
  let s := placePumpStop .valveFault (some l) s
  let s := s.modValve l fun v =>
    { v with confirmed := false, confirmTimer := none, escalated := true,
             retryTimer := some (s.awake + retryInterval) }
  reportCloseFailure l s

/-- An open failure: the window is over and the line is told, which asks for CLOSE (R106, R107). -/
def failOpen (l : LineId) (s : State) : State :=
  reportOpenFailure l (s.modValve l fun v => { v with confirmTimer := none })

/-- A confirming status: the stage is confirmed, the window and any escalation end, and a confirmed CLOSE is reported
to the line (R105, R110). -/
def confirmStage (l : LineId) (s : State) : State :=
  let s := s.modValve l fun v =>
    { v with confirmed := true, confirmTimer := none, escalated := false, retryTimer := none }
  completeStopping l s

/-- The position that confirms a stage (spec/06, 6.1). -/
def confirmingPosition : Stage → Position
  | .close => .closed
  | .openSlow => .slow
  | .openFull => .full

/-- A valve status acts by the commanded stage, the confirmed and the escalated item (R104, R105, R107, R108,
R111). -/
def takeValveStatus (l : LineId) (p : Position) (s : State) : State :=
  let s := s.modValve l fun v => { v with reported := some p }
  let v := s.valve.get l
  if v.commanded = .close then
    if v.confirmed then (if p = .closed then s else escalate l s)
    else if p = .closed then confirmStage l s
    else if p = .fault ∧ v.escalated = false then escalate l s
    else s
  else if p = .fault then failOpen l s
  else if v.confirmed then (if p = confirmingPosition v.commanded then s else resendStage l 2 s)
  else if p = confirmingPosition v.commanded then confirmStage l s
  else s

/-- A frame on a line's valve identifier + 1: a valve status where its first byte is a position, else ignored
(R104). -/
def takeValveFrame (l : LineId) (data : List Byte) (s : State) : State :=
  match data with
  | [] => s
  | b :: _ =>
    match Position.ofCode b.toNat with
    | none => s
    | some p => takeValveStatus l p s

/-- The end of an unconfirmed, unescalated window (R106, R109). -/
def windowEnds (l : LineId) (s : State) : State :=
  let v := s.valve.get l
  if v.commanded = .close then
    if v.sendCount < 3 then resendStage l (v.sendCount + 1) s else escalate l s
  else if v.sendCount < 2 then resendStage l 2 s
  else failOpen l s

/-- A valve's confirmation window has ended (R106, R109). -/
def confirmDue (s : State) (l : LineId) : Bool :=
  timerDue (s.valve.get l).confirmTimer s.awake && !(s.valve.get l).confirmed && !(s.valve.get l).escalated
    && !s.power.parked

/-- Expiry of a valve's confirmation window, where it is due (R106, R109). -/
def takeConfirmExpiry (l : LineId) (s : State) : State := if confirmDue s l then windowEnds l s else s

/-- A valve's retry timer has expired while escalated (R110). -/
def retryDue (s : State) (l : LineId) : Bool :=
  timerDue (s.valve.get l).retryTimer s.awake && (s.valve.get l).escalated && !s.power.parked

/-- Expiry of the retry timer, where it is due: CLOSE is placed again and the timer restarted (R110). -/
def takeRetryExpiry (l : LineId) (s : State) : State :=
  if retryDue s l then
    s.modValve l fun v => { v with slot := some .close, retryTimer := some (s.awake + retryInterval) }
  else s

/-- CLOSE to both valves, issued afresh, and a pump stop (R112). -/
def closeBothValves (reason : PumpReason) (s : State) : State :=
  placePumpStop reason none (issueStage .line2 .close (issueStage .line1 .close s))

end Sys2Proof.Machine
end

