-- ==== Sys2Proof/Machine/Air.lean ====
section
/-! DEFINITION. What field frames and air timers do to a line: temperature samples (R25 to R27), air reports (R90 to
R93). -/

namespace Sys2Proof.Machine

/-- A probe frame is a temperature sample: it holds the status byte and the value, the status is 0 and the value is in
range (R25). -/
def sampleOf (data : List Byte) : Option Int :=
  match data with
  | st :: lo :: hi :: _ =>
    let v := toSigned 16 (leNat [lo, hi])
    if st = 0 ∧ -4000 ≤ v ∧ v ≤ 6000 then some v else none
  | _ => none

/-- A probe frame handed to its line: a sample, or one probe error more (R25, R26). -/
def takeProbeFrame (l : LineId) (data : List Byte) (s : State) : State :=
  match sampleOf data with
  | some v => s.modLine l fun ln => { ln with temp := some { value := v, since := s.awake } }
  | none => s.modLine l fun ln => { ln with probeErrors := sat16 ln.probeErrors }

/-- An air frame restarts the air-silence timer and clears the air-silent mark (R90). -/
def hearAir (l : LineId) (s : State) : State :=
  s.modLine l fun ln => { ln with airSilence := some (s.awake + airSilenceTime), airSilent := false }

/-- The resume state of a line that air stops (R90). -/
def resumeOf : LineState → ResumeState
  | .slowdown => .slowdown
  | _ => .flowing

/-- AIR_PRESENT (R90). -/
def takeAirPresent (l : LineId) (s : State) : State :=
  let s := hearAir l s
  let s := s.modLine l fun ln => { ln with airFlag := true, airClear := none }
  let s :=
    if (s.lineState l).routes then s.modCtx l fun d => { d with flags := { d.flags with airSeen := true } } else s
  match s.lineState l with
  | .flowing | .slowdown => enterAirHold l (resumeOf (s.lineState l)) s
  | .stopping => s.modLine l fun ln => { ln with airInStop := true }
  | _ => s

/-- AIR_CLEAR starts the air-clear timer when the flag is set and the timer stopped (R91). -/
def takeAirClear (l : LineId) (s : State) : State :=
  let s := hearAir l s
  s.modLine l fun ln =>
    { ln with airClear := if ln.airFlag ∧ ln.airClear = none then some (s.awake + airClearTime) else ln.airClear }

/-- An air frame handed to its line; any other value, or no byte, is ignored (R90). -/
def takeAirFrame (l : LineId) (data : List Byte) (s : State) : State :=
  match data with
  | [] => s
  | b :: _ =>
    if b = 1 then takeAirPresent l s
    else if b = 2 then takeAirClear l s
    else s

/-- A line in AIR_HOLD returns to its resume state (R91). -/
def leaveAirHold (l : LineId) (s : State) : State :=
  match s.lineState l, (s.line.get l).resume with
  | .airHold, some r => enterState l r.toLineState s
  | _, _ => s

/-- The air-clear timer of a line has expired (R91). -/
def airClearDue (s : State) (l : LineId) : Bool := timerDue (s.line.get l).airClear s.awake && !s.power.parked

/-- Expiry of the air-clear timer, where it is due (R91). -/
def takeAirClearExpiry (l : LineId) (s : State) : State :=
  if airClearDue s l then
    leaveAirHold l (s.modLine l fun ln => { ln with airFlag := false, airClear := none })
  else s

/-- The air-hold timer of a line in AIR_HOLD has expired (R92). -/
def airHoldDue (s : State) (l : LineId) : Bool :=
  timerDue (s.line.get l).airHold s.awake && decide (s.lineState l = .airHold) && !s.power.parked

/-- Expiry of the air-hold timer, where it is due (R92). -/
def takeAirHoldExpiry (l : LineId) (s : State) : State :=
  if airHoldDue s l then enterStopping l [.airTimeout] s else s

/-- The air-silence timer of a line has reached 5 s (R93). -/
def airSilenceDue (s : State) (l : LineId) : Bool := timerDue (s.line.get l).airSilence s.awake && !s.power.parked

/-- The air-silence expiry, where it is due: in AIR_HOLD the timer starts again; elsewhere the air flag is cleared and
the mark set, and the timer stays at its limit (R93). -/
def takeAirSilenceExpiry (l : LineId) (s : State) : State :=
  if airSilenceDue s l then
    if s.lineState l = .airHold then
      s.modLine l fun ln => { ln with airSilence := some (s.awake + airSilenceTime) }
    else
      s.modLine l fun ln => { ln with airFlag := false, airClear := none, airSilent := true, airSilence := none }
  else s

end Sys2Proof.Machine
end

