-- ==== Sys2Proof/Machine/Reporting.lean ====
section
/-! DEFINITION. The contents of the part's own frames on the cab link: line status, device status, and their padding
(R187, R189, R192). -/

namespace Sys2Proof.Machine

/-- The data lengths that the FD format allows above 8 bytes, and the least of them that holds `n` (R192). -/
def paddedLength (n : Nat) : Nat :=
  if n ≤ 8 then n
  else ([12, 16, 20, 24, 32, 48].find? fun k => decide (n ≤ k)).getD 64

/-- Data padded with zero bytes to the next data length that the format allows (R192). -/
def padData (bytes : List Byte) : List Byte := bytes ++ List.replicate (paddedLength bytes.length - bytes.length) 0

/-- The first identifier of the part's block for an address (R161, R177). -/
def blockStart (address : Nat) : Nat := 0x0B3C0000 + 16 * address

/-- One of the part's own frames on the cab link, at an offset of the block in effect: an FD frame with bit-rate
switch (R177, R192). -/
def ownCabFrame (address offset : Nat) (bytes : List Byte) : Frame :=
  { extended := true, ident := blockStart address + offset, fd := true, brs := true, data := padData bytes }

/-- One of the part's own frames on the field link: a classical frame of the length given (R192). -/
def ownFieldFrame (ident : Nat) (bytes : List Byte) : Frame :=
  { extended := true, ident := ident, fd := false, brs := false, data := bytes }

/-- A volume of the delivery context in a line status frame; 0 with no context (R187, R192). -/
def contextVolume (ctx : Option Delivery) (f : Delivery → Volume) : List Byte :=
  optField (b4 0) (fun d => s4Clamped (f d)) ctx

/-- The running amount of a line: absent for a FLUSH and with no context (R38, R187). -/
def runningAmount (ctx : Option Delivery) : Option Nat := ctx.bind deliveryAmount

/-- Bytes 0 to 46 of the line status frame of a line (R187, R192). -/
def lineStatusBytes (s : State) (l : LineId) : List Byte :=
  let ln := s.line.get l
  let ctx := ln.kept.ctx
  let order := ctx.bind (·.order)
  let preset := ctx.bind (·.preset)
  let v := s.valve.get l
  b1 ln.kept.state.code
    ++ optCode StopCause.code (ctx.bind (·.stopCause))
    ++ optCode StopTarget.code (ctx.bind (·.stopTarget))
    ++ b1 v.commanded.code
    ++ optCode Position.code v.reported
    ++ b1 (ageClass s.awake ln.temp).code
    ++ b1 (presence [ctx.isSome, ln.temp.isSome, order.isSome, preset.isSome, (runningAmount ctx).isSome])
    ++ optField (b2 0) (fun d => b2 d.flags.code) ctx
    ++ optField (b2 0) (fun t => s2 t.value) ln.temp
    ++ b2 (s.pulse.get l).flow
    ++ b1 0
    ++ optField (b1 0) (fun d => b1 (d.compartment.val + 1)) ctx
    ++ contextVolume ctx (·.gross)
    ++ contextVolume ctx (·.net)
    ++ contextVolume ctx (·.billed)
    ++ contextVolume ctx (·.unbilled)
    ++ optField (b4 0) b4 order
    ++ optField (b4 0) s4 preset
    ++ optField (b4 0) b4 (runningAmount ctx)
    ++ s4Clamped ln.kept.unattended

/-- The bytes of the device status frame: condition set, principal condition, clock count or 0 while UNSET (R189,
R192). -/
def deviceStatusBytes (s : State) : List Byte :=
  b1 (conditions s).bits ++ b1 (conditions s).principal ++ b4 (if s.clock.isSet then s.clock.count else 0)

/-- The seconds count where the clock is SET (R185). -/
def clockTime (s : State) : Option Nat := if s.clock.isSet then some s.clock.count else none

end Sys2Proof.Machine
end

