-- ==== Sys2Proof/Machine/Lines.lean ====
section
/-! DEFINITION. The line commands (spec/05, R71 to R81; READ TOTALIZERS, R33). Each owner gives the state and the
answer. -/

namespace Sys2Proof.Machine

/-- A line command that names a line other than 1 or 2 is refused with PARAMETER before any other check (R71). -/
def onLine (line : Nat) (s : State) (f : LineId → State × Answer) : State × Answer :=
  match lineOfNumber line with
  | none => (s, plain .parameter)
  | some l => f l

/-- An order by its number (R57). -/
def findOrder (orders : List Order) (number : Nat) : Option Order :=
  orders.find? fun o => decide (o.number = number)

/-- The orders with the one of a number bound or unbound (R62, R64). -/
def bindOrder (number : Nat) (bound : Option LineId) (orders : List Order) : List Order :=
  orders.map fun o => if o.number = number then { o with bound := bound } else o

/-- The orders without the one of a number (R61, R65). -/
def removeOrder (number : Nat) (orders : List Order) : List Order :=
  orders.filter fun o => decide (o.number ≠ number)

/-- A context right after ARM or ARM FLUSH, but for what they copy into it (R69). -/
def freshDelivery (s : State) (l : LineId) (kind : DeliveryKind) (p : ProductNo) (c : CompartmentNo) : Delivery :=
  { kind := kind, order := none, customer := none, price := none, preset := none, product := p, compartment := c,
    ticket := none, gross := 0, net := 0, billed := 0, unbilled := 0, reversePulses := 0, integrityErrors := 0,
    sumTG := 0, tempGross := 0, startTime := none, endTime := none, stopCause := none, stopTarget := none,
    faults := 0, flags := .clear, eventCount := s.cal.eventCount, unattendedBefore := (s.line.get l).kept.unattended }

/-- The context of an order (R62, R69). -/
def orderDelivery (s : State) (l : LineId) (o : Order) (c : CompartmentNo) : Delivery :=
  { freshDelivery s l .delivery o.product c with
    order := some o.number
    customer := some o.customer
    price := some o.price
    preset := if o.preset = 0 then none else some o.preset }

/-- What ARM and ARM FLUSH share (R72, R73): the context, the cleared accumulator, the grant, the reservation, the
state ARMED. -/
def openDelivery (l : LineId) (d : Delivery) (s : State) : State :=
  let s := s.modKept l fun k => { k with ctx := some d, unattended := 0 }
  let s := s.modCompartment d.compartment fun k => { k with granted := some l }
  let s := { s with journal := reserve (.line l) d.kind.recordKind s.journal }
  enterState l .armed s

/-- A compartment is granted to the other line (R46). -/
def grantedToOther (s : State) (l : LineId) (c : CompartmentNo) : Bool :=
  match s.compartments[c].granted with
  | none => false
  | some g => decide (g ≠ l)

/-- The checks that ARM and ARM FLUSH end with, in their order (R72, R73). -/
def openRefusal (s : State) (l : LineId) (c : CompartmentNo) (kind : DeliveryKind) : Option Status :=
  if grantedToOther s l c then some .compartmentBusy
  else if compartmentLow s c then some .compartmentLow
  else if !canReserve s.journal kind.recordKind then some .journalFull
  else none

/-- ARM of a line (R72). -/
def armLine (l : LineId) (order compartment : Nat) (s : State) : State × Answer :=
  if s.lineState l ≠ .idle then (s, plain .state)
  else if (s.cal.lines.get l).k = 0 then (s, plain .uncalibrated)
  else
    match findOrder s.orders order with
    | none => (s, plain .notFound)
    | some o =>
      if o.bound.isSome then (s, plain .state)
      else if !s.cal.products[o.product].defined then (s, plain .parameter)
      else
        match compartmentOfNumber compartment with
        | none => (s, plain .parameter)
        | some c =>
          if s.compartments[c].product ≠ some o.product then (s, plain .productMismatch)
          else if (s.line.get l).kept.hose ≠ .product o.product then (s, plain .hoseProduct)
          else
            match openRefusal s l c .delivery with
            | some st => (s, plain st)
            | none =>
              let d := orderDelivery s l o c
              (openDelivery l d { s with orders := bindOrder o.number (some l) s.orders }, plain .ok)

/-- ARM (R71, R72). -/
def ownerArm (line order compartment : Nat) (s : State) : State × Answer :=
  onLine line s fun l => armLine l order compartment s

/-- ARM FLUSH of a line (R73). -/
def armFlushLine (l : LineId) (compartment : Nat) (s : State) : State × Answer :=
  if s.lineState l ≠ .idle then (s, plain .state)
  else if (s.cal.lines.get l).k = 0 then (s, plain .uncalibrated)
  else
    match compartmentOfNumber compartment with
    | none => (s, plain .parameter)
    | some c =>
      match s.compartments[c].product with
      | none => (s, plain .productMismatch)
      | some p =>
        if !s.cal.products[p].defined then (s, plain .parameter)
        else
          match openRefusal s l c .flush with
          | some st => (s, plain st)
          | none => (openDelivery l (freshDelivery s l .flush p c) s, plain .ok)

/-- ARM FLUSH (R71, R73). -/
def ownerArmFlush (line compartment : Nat) (s : State) : State × Answer :=
  onLine line s fun l => armFlushLine l compartment s

/-- A line's grant is released (R48). -/
def releaseGrant (d : Delivery) (s : State) : State :=
  s.modCompartment d.compartment fun k => { k with granted := none }

/-- The undoing of an ARM (R74). -/
def undoArm (l : LineId) (d : Delivery) (s : State) : State :=
  let s := releaseGrant d s
  let s := match d.order with
    | none => s
    | some n => { s with orders := bindOrder n none s.orders }
  let s := { s with journal := returnReservation (.line l) s.journal }
  let s := s.modKept l fun k => { k with ctx := none, unattended := k.unattended + d.unattendedBefore }
  enterState l .idle s

/-- DISARM (R71, R74). -/
def ownerDisarm (line : Nat) (s : State) : State × Answer :=
  onLine line s fun l =>
    match s.lineState l, s.ctx l with
    | .armed, some d => (undoArm l d s, plain .ok)
    | _, _ => (s, plain .state)

/-- The refusals that START and RESUME share (R75, R76). -/
def flowRefusal (s : State) (l : LineId) (d : Delivery) : Option Status :=
  if (s.line.get l).temp.isNone then some .tempAbsent
  else if compartmentLow s d.compartment then some .compartmentLow
  else none

/-- The entry state of START and RESUME (R75). -/
def entryState (s : State) (l : LineId) (d : Delivery) : ResumeState :=
  if reached (slowdownThreshold s l d) d.billed then .slowdown else .flowing

/-- A line enters its entry state, or AIR_HOLD with it as resume state when the air flag is set (R75, R76). DESIGN CHOICE,
entry 43: an air-clear timer that runs at that entry runs on, and its expiry ends the hold (R91). -/
def beginFlow (l : LineId) (r : ResumeState) (s : State) : State :=
  if (s.line.get l).airFlag then enterAirHold l r s else enterState l r.toLineState s

/-- The lock marks a delivery that begins to flow while it is not LOCKED (R75, R76, R159). -/
def markUnlocked (s : State) (f : Flags) : Flags := { f with calUnlocked := f.calUnlocked || lockIsOpen s }

/-- A flag set that notes an unset clock (R75, R80, R185). -/
def markClock (s : State) (f : Flags) : Flags := { f with clockUnset := f.clockUnset || !s.clock.isSet }

/-- START of an ARMED line (R75). -/
def startLine (l : LineId) (d : Delivery) (s : State) : State × Answer :=
  match flowRefusal s l d with
  | some st => (s, plain st)
  | none =>
    let s' := s.modCtx l fun d => { d with startTime := clockTime s, flags := markUnlocked s (markClock s d.flags) }
    (beginFlow l (entryState s l d) s', plain .ok)

/-- START (R71, R75). -/
def ownerStart (line : Nat) (s : State) : State × Answer :=
  onLine line s fun l =>
    match s.lineState l, s.ctx l with
    | .armed, some d => startLine l d s
    | _, _ => (s, plain .state)

/-- A delivery has reached its preset or the volume limit (R76, check 3). -/
def presetReached (s : State) (l : LineId) (d : Delivery) : Bool :=
  reached (stopThreshold s l d) d.billed || decide (volumeLimit ≤ d.billed)

/-- RESUME of a PAUSED line (R76). -/
def resumePaused (l : LineId) (d : Delivery) (s : State) : State × Answer :=
  match flowRefusal s l d with
  | some st => (s, plain st)
  | none =>
    if presetReached s l d then (s, plain .presetReached)
    else
      let s' := s.modCtx l fun d => { d with stopCause := none, stopTarget := none, flags := markUnlocked s d.flags }
      (beginFlow l (entryState s l d) s', plain .ok)

/-- RESUME (R71, R76). -/
def ownerResume (line : Nat) (s : State) : State × Answer :=
  onLine line s fun l =>
    match s.lineState l, s.ctx l with
    | .interrupted, _ => (enterState l .paused s, plain .ok)
    | .paused, some d => resumePaused l d s
    | _, _ => (s, plain .state)

/-- PAUSE (R71, R77). -/
def ownerPause (line : Nat) (s : State) : State × Answer :=
  onLine line s fun l =>
    match s.lineState l with
    | .flowing | .slowdown | .airHold | .stopping => (stopOn l .operatorPause s, plain .ok)
    | _ => (s, plain .state)

/-- STOP in PAUSED: OPERATOR_STOP joins the fault set, and the line goes to FINISHED with its stop cause kept
(R78). -/
def finishPaused (l : LineId) (s : State) : State :=
  enterState l .finished <| s.modCtx l fun d =>
    { d with faults := addFault d.faults .operatorStop, stopTarget := some .finished }

/-- STOP (R71, R78). -/
def ownerStop (line : Nat) (s : State) : State × Answer :=
  onLine line s fun l =>
    match s.lineState l with
    | .flowing | .slowdown | .airHold | .stopping => (stopOn l .operatorStop s, plain .ok)
    | .paused => (finishPaused l s, plain .ok)
    | _ => (s, plain .state)

/-- EMERGENCY STOP (R79, R112). -/
def ownerEmergencyStop (s : State) : State × Answer :=
  (closeBothValves .emergencyStop (stopOn .line2 .emergencyStop (stopOn .line1 .emergencyStop s)), plain .ok)

/-- The context at END: end time, and for a DELIVERY the next ticket number (R80 steps 1 and 2, R123). -/
def endContext (s : State) (d : Delivery) : Delivery :=
  { d with
    endTime := clockTime s
    flags := markClock s d.flags
    ticket := match d.kind with
      | .delivery => some (s.journal.newestTicket + 1)
      | .flush => d.ticket }

/-- The newest ticket number after END (R118, R123). -/
def endTicket (s : State) (d : Delivery) : Nat :=
  match d.kind with
  | .delivery => s.journal.newestTicket + 1
  | .flush => s.journal.newestTicket

/-- The response data of END: ticket number, sequence number, billed and amount; ticket and amount are optional
(R80, R192). -/
def endData (d : Delivery) (sequence : Nat) : List Byte :=
  b1 (presence [d.ticket.isSome, (deliveryAmount d).isSome]) ++ optField (b4 0) b4 d.ticket ++ b4 sequence
    ++ s4 d.billed ++ optField (b4 0) b4 (deliveryAmount d)

/-- END of a delivery (R80). -/
def endLine (l : LineId) (d : Delivery) (s : State) : State × Answer :=
  let d' := endContext s d
  let record := Contents.delivery (buildRecord s l d')
  let journal := requestWrite (.line l) record { s.journal with newestTicket := endTicket s d }
  let s' := { s.modCtx l (fun _ => d') with journal := journal }
  (enterState l .closing s', .reply .ok (endData d' journal.newestSeq))

/-- END (R71, R80). -/
def ownerEnd (line : Nat) (s : State) : State × Answer :=
  onLine line s fun l =>
    match s.ctx l with
    | none => (s, plain .state)
    | some d => if (s.lineState l).holds then endLine l d s else (s, plain .state)

/-- READ LINE STATUS (R81, R192). -/
def ownerReadLineStatus (line : Nat) (s : State) : State × Answer :=
  onLine line s fun l =>
    (s, .reply .ok (lineStatusBytes s l ++ b1 (s.line.get l).kept.hose.code
      ++ s4 (s.settings.lines.get l).closeAhead))

/-- READ TOTALIZERS (R33, R36). -/
def ownerReadTotalizers (line : Nat) (s : State) : State × Answer :=
  onLine line s fun l =>
    let ln := s.line.get l
    (s, .reply .ok (s8 ln.kept.grossTotal ++ s8 ln.kept.netTotal ++ s8 ln.kept.grossRem ++ s8 ln.kept.netRem
      ++ b4 ln.kept.lifetimeErrors ++ b2 ln.probeErrors ++ s4Clamped ln.kept.unattended))

/-! ### Completion of CLOSING (R100) -/

/-- The hose product after a FLUSH (R55). -/
def hoseAfter (s : State) (l : LineId) (d : Delivery) : HoseProduct :=
  match d.kind with
  | .delivery => (s.line.get l).kept.hose
  | .flush => if (s.cal.lines.get l).hoseVolume ≤ d.gross then .product d.product else .mixed

/-- The completion of a line's record write: grant, order, hose product, context, IDLE (R48, R55, R65, R100). -/
def closeLine (l : LineId) (s : State) : State :=
  match s.ctx l with
  | none => s
  | some d =>
    let hose := hoseAfter s l d
    let s := releaseGrant d s
    let s := match d.order with
      | none => s
      | some n => { s with orders := removeOrder n s.orders }
    let s := s.modKept l fun k => { k with hose := hose, ctx := none }
    enterState l .idle s

end Sys2Proof.Machine
end

