-- ==== Sys2Proof/Machine/Stock.lean ====
section
/-! DEFINITION. Products, compartments and orders (spec/03, spec/04): their commands. -/

namespace Sys2Proof.Machine

/-! ### Products and compartments -/

/-- READ PRODUCT (R42; widths of alpha and beta, entry 14). -/
def ownerReadProduct (product : Nat) (s : State) : State × Answer :=
  match productOfNumber product with
  | none => (s, plain .parameter)
  | some n =>
    let p := s.cal.products[n]
    (s, .reply .ok (yesNo p.defined ++ b8 p.alpha ++ b8 p.beta ++ s2 p.tref ++ b1 p.basis.code))

/-- The fields of a compartment record in a response (R45, R192). DESIGN CHOICE, entry 42: the reserve takes 4 bytes,
signed. -/
def compartmentData (c : Compartment) : List Byte :=
  b1 (productField c.product) ++ s4Clamped c.remaining ++ s4 c.reserve ++ b1 (lineField c.granted)

/-- READ COMPARTMENT (R45). -/
def ownerReadCompartment (compartment : Nat) (s : State) : State × Answer :=
  match compartmentOfNumber compartment with
  | none => (s, plain .parameter)
  | some c => (s, .reply .ok (compartmentData s.compartments[c]))

/-- The product of LOAD COMPARTMENT: 0 is EMPTY, else a defined product (R44, checks 2 and 3). -/
def loadedProduct (s : State) (product : Nat) : Option (Option ProductNo) :=
  if product = 0 then some none
  else
    match productOfNumber product with
    | none => none
    | some p => if s.cal.products[p].defined then some (some p) else none

/-- The volumes of LOAD COMPARTMENT are in range (R44, checks 4 and 5). -/
def loadVolumesFit (product : Option ProductNo) (volume reserve : Volume) : Bool :=
  decide (0 ≤ volume) && decide (volume ≤ 20000000) && (product.isSome || decide (volume = 0)) &&
    decide (0 ≤ reserve) && decide (reserve ≤ 1000000)

/-- LOAD COMPARTMENT (R44). -/
def ownerLoadCompartment (compartment product : Nat) (volume reserve : Volume) (s : State) : State × Answer :=
  match compartmentOfNumber compartment, loadedProduct s product with
  | some c, some p =>
    if !loadVolumesFit p volume reserve then (s, plain .parameter)
    else if s.compartments[c].granted.isSome then (s, plain .state)
    else
      let s := s.modCompartment c fun k => { k with product := p, remaining := volume, reserve := reserve }
      (s, .reply .ok (compartmentData s.compartments[c]))
  | _, _ => (s, plain .parameter)

/-! ### Orders -/

/-- The greatest number of orders (R57). -/
def maxOrders : Nat := 16

/-- The number of orders held, as a response carries it (entry 13). -/
def orderCount (s : State) : List Byte := b1 s.orders.length

/-- The fields of LOAD ORDER are in range (R59, checks 1, 3 and 4). -/
def orderFits (order : Nat) (preset : Volume) (price : Nat) : Bool :=
  decide (order ≠ 0) && (decide (preset = 0) || (decide (10000 ≤ preset) && decide (preset ≤ 50000000))) &&
    decide (price ≤ 99999)

/-- LOAD ORDER (R59). -/
def ownerLoadOrder (order product : Nat) (preset : Volume) (price customer : Nat) (s : State) : State × Answer :=
  match productOfNumber product with
  | none => (s, plain .parameter)
  | some p =>
    if !orderFits order preset price || !s.cal.products[p].defined then (s, plain .parameter)
    else if (findOrder s.orders order).isSome then (s, plain .duplicate)
    else if maxOrders ≤ s.orders.length then (s, plain .tableFull)
    else
      let o : Order :=
        { number := order, product := p, preset := preset, price := price, customer := customer, bound := none }
      let s' := { s with orders := s.orders ++ [o] }
      (s', .reply .ok (b1 s.orders.length ++ orderCount s'))

/-- The fields of an order in a response (R60); the byte of its state is 0 for WAITING and 1 for BOUND (R192). -/
def orderData (o : Order) : List Byte :=
  b4 o.number ++ b1 (o.product.val + 1) ++ s4 o.preset ++ b4 o.price ++ b4 o.customer ++ yesNo o.bound.isSome
    ++ b1 (lineField o.bound)

/-- READ ORDER (R60). -/
def ownerReadOrder (position : Nat) (s : State) : State × Answer :=
  match s.orders[position]? with
  | none => (s, .reply .notFound (orderCount s))
  | some o => (s, .reply .ok (orderData o ++ orderCount s))

/-- REMOVE ORDER (R61). -/
def ownerRemoveOrder (order : Nat) (s : State) : State × Answer :=
  match findOrder s.orders order with
  | none => (s, plain .notFound)
  | some o =>
    if o.bound.isSome then (s, plain .state)
    else
      let s := { s with orders := removeOrder order s.orders }
      (s, .reply .ok (orderCount s))

end Sys2Proof.Machine
end

