-- ==== Sys2Proof/Machine/Calibrate.lean ====
section
/-! DEFINITION. The calibration set and the metrology lock (spec/08): items, checks, calibration-class commands and
their completion, the roll-forward, and the lock's commands. -/

namespace Sys2Proof.Machine

/-! ### Items (R138 to R141) -/

/-- The calibration set with one line's items changed. -/
def Calibration.modLine (c : Calibration) (l : LineId) (f : LineCalibration → LineCalibration) : Calibration :=
  { c with lines := c.lines.set l (f (c.lines.get l)) }

/-- The calibration set with one product record changed. -/
def Calibration.modProduct (c : Calibration) (p : ProductNo) (f : Product → Product) : Calibration :=
  { c with products := c.products.set p (f c.products[p]) }

/-- The value of an item as it stands (R144); an unused band reads lower bound 0 and correction 0 (R22). DESIGN CHOICE,
entry 50: DEFINED reads 1 for yes and 0 for no. -/
def itemValue (c : Calibration) : ItemSel → CalValue
  | .kFactor l => .int (c.lines.get l).k
  | .bandCount l => .int (c.lines.get l).bands.length
  | .band l i =>
    match (c.lines.get l).bands[i.val]? with
    | some b => .band b.lower b.correction true
    | none => .band 0 0 false
  | .integrityLimit l => .int (c.lines.get l).integrityLimit
  | .reverseLimit l => .int (c.lines.get l).reverseLimit
  | .hoseVolume l => .int (c.lines.get l).hoseVolume
  | .valveId l => .int (c.lines.get l).valveId
  | .probeId l => .int (c.lines.get l).probeId
  | .airId l => .int (c.lines.get l).airId
  | .pumpStopId => .int c.pumpStopId
  | .defined p => .int c.products[p].defined.toNat
  | .alpha p => .int c.products[p].alpha
  | .beta p => .int c.products[p].beta
  | .tref p => .int c.products[p].tref
  | .basis p => .int c.products[p].basis.code

/-- The new value that a write carries for an item (R146, R192). DESIGN CHOICE, entry 46: bytes 6 and 7 of a carried band
value have no effect, and the new value is recorded as that of a used entry. -/
def carriedValue (sel : ItemSel) (value : BitVec 64) : CalValue :=
  match sel with
  | .band _ _ => .band (calBandLower value) (calBandCorrection value) true
  | _ => .int (calInt value)

/-- The basis that a code names; GROSS for 0 (R192). DESIGN CHOICE, entry 52: NET for every other value. -/
def basisOf (v : Int) : Basis := if v = 0 then .gross else .net

/-- A band table with entry `i` replaced, or appended when `i` is the used count (R140). DESIGN CHOICE, entry 52: appended
as well when `i` is beyond it. -/
def writeBand (i : Nat) (b : Band) (bands : List Band) : List Band :=
  if i < bands.length then bands.set i b else bands ++ [b]

/-- The calibration set with an item at a new value (R141, R148). DESIGN CHOICE, entry 50: DEFINED is no at 0 and yes at
any other value. DESIGN CHOICE, entry 52: a value outside its item's range, which only a record with changed bits can bear, is
taken as spelled where the item can hold it; a negative value of an item without a sign becomes 0, and a used count above
the present one leaves the band table. -/
def setItem (c : Calibration) (sel : ItemSel) (v : CalValue) : Calibration :=
  match sel, v with
  | .kFactor l, .int v => c.modLine l fun x => { x with k := v.toNat }
  | .bandCount l, .int v => c.modLine l fun x => { x with bands := x.bands.take v.toNat }
  | .band l i, .band lower correction _ =>
    c.modLine l fun x => { x with bands := writeBand i.val { lower := lower, correction := correction } x.bands }
  | .integrityLimit l, .int v => c.modLine l fun x => { x with integrityLimit := v.toNat }
  | .reverseLimit l, .int v => c.modLine l fun x => { x with reverseLimit := v.toNat }
  | .hoseVolume l, .int v => c.modLine l fun x => { x with hoseVolume := v.toNat }
  | .valveId l, .int v => c.modLine l fun x => { x with valveId := v.toNat }
  | .probeId l, .int v => c.modLine l fun x => { x with probeId := v.toNat }
  | .airId l, .int v => c.modLine l fun x => { x with airId := v.toNat }
  | .pumpStopId, .int v => { c with pumpStopId := v.toNat }
  | .defined p, .int v => c.modProduct p fun x => { x with defined := decide (v ≠ 0) }
  | .alpha p, .int v => c.modProduct p fun x => { x with alpha := v.toNat }
  | .beta p, .int v => c.modProduct p fun x => { x with beta := v.toNat }
  | .tref p, .int v => c.modProduct p fun x => { x with tref := v }
  | .basis p, .int v => c.modProduct p fun x => { x with basis := basisOf v }
  | _, _ => c

/-- The four field identifiers of a line, the valve identifier + 1 among them (R139). -/
def lineIdentifiers (c : LineCalibration) : List Nat := [c.valveId, c.valveId + 1, c.probeId, c.airId]

/-- The nine protected identifiers (R139, R162). -/
def protectedSet (c : Calibration) : List Nat :=
  lineIdentifiers c.lines.line1 ++ lineIdentifiers c.lines.line2 ++ [c.pumpStopId]

/-- An identifier lies in the range from which the part's block is drawn (R139). -/
def inBlockRange (id : Int) : Bool := decide (0x0B3C0000 ≤ id) && decide (id ≤ 0x0B3C03FF)

/-- A value fits an identifier item, and the nine identifiers stay distinct after the write (R139). -/
def identifierFits (c : Calibration) (sel : ItemSel) (valve : Bool) (v : Int) : Bool :=
  decide (0 ≤ v) && decide (v ≤ 0x1FFFFFFF) && !(valve && decide (v = 0x1FFFFFFF)) && !inBlockRange v &&
    !(valve && inBlockRange (v + 1)) && decide (protectedSet (setItem c sel (.int v))).Nodup

/-- A band write fits the table (R140). -/
def bandFits (bands : List Band) (i : Nat) (lower : Nat) (correction : Int) : Bool :=
  decide (i ≤ bands.length) && !(decide (i = bands.length) && decide (bands.length = 6)) &&
    decide (-50000 ≤ correction) && decide (correction ≤ 50000) && decide (lower ≤ 65535) &&
    (if i = 0 then decide (lower = 0)
     else match bands[i - 1]? with
       | none => true
       | some b => decide (b.lower < lower)) &&
    (match bands[i + 1]? with
     | none => true
     | some b => decide (lower < b.lower))

/-- An integer lies in a range. -/
def within (lo hi v : Int) : Bool := decide (lo ≤ v) && decide (v ≤ hi)

/-- A carried value lies in its item's range and breaks neither R139 nor R140 (R138, R145 check 5). DESIGN CHOICE, entry
50: a value of DEFINED other than 0, for no, and 1, for yes, is refused. -/
def itemFits (c : Calibration) (sel : ItemSel) (v : CalValue) : Bool :=
  match sel, v with
  | .kFactor _, .int v => decide (v = 0) || within 10 2000 v
  | .bandCount l, .int v => within 1 6 v && decide (v ≤ (c.lines.get l).bands.length)
  | .band l i, .band lower correction _ => bandFits (c.lines.get l).bands i.val lower correction
  | .integrityLimit _, .int v => within 1 64 v
  | .reverseLimit _, .int v => within 0 5000 v
  | .hoseVolume _, .int v => within 0 200000 v
  | .valveId _, .int v => identifierFits c sel true v
  | .probeId _, .int v => identifierFits c sel false v
  | .airId _, .int v => identifierFits c sel false v
  | .pumpStopId, .int v => identifierFits c sel false v
  | .defined _, .int v => within 0 1 v
  | .alpha _, .int v => within 0 2000 v
  | .beta _, .int v => within 0 5000 v
  | .tref _, .int v => within (-1000) 3000 v
  | .basis _, .int v => within 0 1 v
  | _, _ => false

/-- What the blocks do in the event of an item's change, beside reading the new value later (R33, R114, R141). -/
def itemEffect (sel : ItemSel) (s : State) : State :=
  match sel with
  | .kFactor l => s.modKept l fun k => { k with grossRem := 0, netRem := 0 }
  | .valveId l => (issueStage l .close s).modValve l fun v => { v with reported := none }
  | _ => s

/-! ### Reading (R143, R144) -/

/-- The unlocking credential, present in UNLOCKED (R151). -/
def unlockingCredential : LockState → Option CredentialKind
  | .unlocked c => some c
  | _ => none

/-- READ CALIBRATION IDENTITY (R143; entries 15 and 50); the byte of the level is 0 for STANDARD and 1 for STRICT (R192). -/
def ownerReadCalibrationIdentity (s : State) : State × Answer :=
  (s, .reply .ok (b4 s.cal.eventCount ++ b1 s.lock.state.code
    ++ optCode CredentialKind.code (unlockingCredential s.lock.state) ++ yesNo s.lock.strict
    ++ yesNo s.lock.inspector.isSome ++ yesNo s.lock.fleet.isSome ++ yesNo s.lock.frozen ++ b1 s.lock.attempts))

/-- Whether a product item's record is defined, which its read carries as well (R144). -/
def definedData (c : Calibration) : ItemSel → List Byte
  | .defined p | .alpha p | .beta p | .tref p | .basis p => yesNo c.products[p].defined
  | _ => []

/-- READ CALIBRATION ITEM (R144). -/
def ownerReadCalibrationItem (scope kind band : Nat) (s : State) : State × Answer :=
  match selectorOf scope kind band with
  | none => (s, plain .parameter)
  | some sel => (s, .reply .ok (calValueBytes (itemValue s.cal sel) ++ definedData s.cal sel))

/-! ### Calibration-class commands (R145 to R148, R156, R157) -/

/-- The relock timer is restarted while the lock is UNLOCKED (R154). -/
def restartRelock (s : State) : State :=
  match s.lock.state with
  | .unlocked _ => { s with lock := { s.lock with relock := some (s.now + relockTime) } }
  | _ => s

/-- An accepted calibration-class command: reservation, record, write request, relock timer (R146). The port makes it
the command in flight. -/
def acceptCalibration (item : RecordItem) (oldValue newValue : CalValue) (s : State) : State :=
  let record : CalibrationRecord :=
    { newCount := s.cal.eventCount + 1, time := clockTime s, item := item, oldValue := oldValue, newValue := newValue,
      credential := unlockingCredential s.lock.state }
  let journal := requestWrite .calibration (.calibration record) (reserve .calibration .calibration s.journal)
  restartRelock { s with journal := journal }

/-- The previous command frame was a READ CALIBRATION IDENTITY answered OK (R145, R178). -/
def identityJustRead (s : State) : Bool :=
  decide (s.port.previous = some { code := 0x40, status := .answered .ok })

/-- Both lines are IDLE. -/
def bothIdle (s : State) : Bool := decide (s.lineState .line1 = .idle) && decide (s.lineState .line2 = .idle)

/-- A refused WRITE CALIBRATION ITEM carries the event count in effect (R145). -/
def refuseWrite (s : State) (st : Status) : State × Answer := (s, .reply st (b4 s.cal.eventCount))

/-- WRITE CALIBRATION ITEM (R145, R146). -/
def ownerWriteCalibrationItem (quoted scope kind band : Nat) (value : BitVec 64) (s : State) : State × Answer :=
  if s.lock.frozen then refuseWrite s .frozen
  else if s.lock.state = .locked then refuseWrite s .locked
  else if !(identityJustRead s && decide (quoted = s.cal.eventCount)) then refuseWrite s .stale
  else if !bothIdle s then refuseWrite s .state
  else
    match selectorOf scope kind band with
    | none => refuseWrite s .parameter
    | some sel =>
      if !itemFits s.cal sel (carriedValue sel value) then refuseWrite s .parameter
      else if !canReserve s.journal .calibration then refuseWrite s .journalFull
      else (acceptCalibration (.item sel) (itemValue s.cal sel) (carriedValue sel value) s, .inFlight)

/-- The state of credentials and level, as a CALIBRATION record gives it (R124, R156). -/
def lockValue (lk : Lock) : CalValue := .lock lk.inspector.isSome lk.fleet.isSome lk.strict

/-- The credentials and level after SET CREDENTIAL, as its record gives them (R156). -/
def setCredentialValue (lk : Lock) (which : CredentialKind) (level : Nat) : CalValue :=
  match which with
  | .inspector => .lock true lk.fleet.isSome (decide (level = 1))
  | .fleet => .lock lk.inspector.isSome true lk.strict

/-- SET CREDENTIAL (R156). -/
def ownerSetCredential (kind : Nat) (value : BitVec 128) (level : Nat) (s : State) : State × Answer :=
  if s.lock.frozen then (s, plain .frozen)
  else if s.lock.attempts = 0 then (s, plain .lockout)
  else if s.lock.state = .locked then (s, plain .locked)
  else if s.lock.state = .unlocked .fleet ∧ CredentialKind.ofCode kind = some .inspector then (s, plain .locked)
  else
    match CredentialKind.ofCode kind with
    | none => (s, plain .parameter)
    | some which =>
      if which = .inspector ∧ 1 < level then (s, plain .parameter)
      else if !canReserve s.journal .calibration then (s, plain .journalFull)
      else
        let s' := acceptCalibration (.credential which) (lockValue s.lock) (setCredentialValue s.lock which level) s
        ({ s' with lock := { s'.lock with staged := some { which := which, value := value } } }, .inFlight)

/-- REMOVE LOCK (R157). -/
def ownerRemoveLock (s : State) : State × Answer :=
  if s.lock.frozen then (s, plain .frozen)
  else if s.lock.attempts = 0 then (s, plain .lockout)
  else if s.lock.state ≠ .unlocked .inspector then (s, plain .locked)
  else if !canReserve s.journal .calibration then (s, plain .journalFull)
  else (acceptCalibration .lock (lockValue s.lock) (.lock false false false) s, .inFlight)

/-- The value staged for a credential, where one is (R156). -/
def stagedFor (which : CredentialKind) (lk : Lock) : Option (BitVec 128) :=
  match lk.staged with
  | some st => if st.which = which then some st.value else none
  | none => none

/-- A credential takes its staged value, and the level is the one given (R150, R156). DESIGN CHOICE, entry 52: with no
value staged for it the credential keeps the one it has. -/
def takeStaged (which : CredentialKind) (level : Bool) (lk : Lock) : Lock :=
  match which with
  | .inspector => { lk with inspector := stagedFor which lk <|> lk.inspector, strict := level, staged := none }
  | .fleet => { lk with fleet := stagedFor which lk <|> lk.fleet, strict := level, staged := none }

/-- The level that a record's new value gives (R150, R156). -/
def valueStrict : CalValue → Bool
  | .lock _ _ strict => strict
  | _ => false

/-- A record's change is applied, with the level that a SET CREDENTIAL leaves, and the event count becomes the record's
(R148, R150). -/
def applyRecord (level : Bool) (r : CalibrationRecord) (s : State) : State :=
  let s := match r.item with
    | .item sel => itemEffect sel { s with cal := setItem s.cal sel r.newValue }
    | .credential which => { s with lock := takeStaged which level s.lock }
    | .lock => { s with lock := { s.lock with inspector := none, fleet := none, strict := false, staged := none } }
  { s with cal := { s.cal with eventCount := r.newCount } }

/-- A completed write applies its record: the level takes the carried value for the inspector credential alone (R148,
R156). -/
def completeRecord (r : CalibrationRecord) (s : State) : State :=
  applyRecord (if r.item = .credential .inspector then valueStrict r.newValue else s.lock.strict) r s

/-- A record is rolled forward: the level takes the record's new level for either credential (R150). -/
def rollForward (r : CalibrationRecord) (s : State) : State := applyRecord (valueStrict r.newValue) r s

/-! ### The lock's own commands (R152 to R155, R158) -/

/-- Every response to UNLOCK carries the lock state and the attempts remaining after the command (R152; width, entry
13). -/
def unlockAnswer (s : State) (st : Status) : State × Answer :=
  (s, .reply st (b1 s.lock.state.code ++ b1 s.lock.attempts))

/-- A credential's bytes, where it is set (R151). -/
def credentialOf (lk : Lock) : CredentialKind → Option (BitVec 128)
  | .inspector => lk.inspector
  | .fleet => lk.fleet

/-- UNLOCK (R152). -/
def ownerUnlock (kind : Nat) (value : BitVec 128) (s : State) : State × Answer :=
  if s.lock.frozen then unlockAnswer s .frozen
  else if s.lock.attempts = 0 then unlockAnswer s .lockout
  else
    match CredentialKind.ofCode kind with
    | none => unlockAnswer s .parameter
    | some which =>
      if s.lock.state ≠ .locked then unlockAnswer s .ok
      else if which = .fleet ∧ s.lock.strict = true then unlockAnswer s .level
      else if credentialOf s.lock which ≠ some value then
        unlockAnswer { s with lock := { s.lock with attempts := s.lock.attempts - 1 } } .badCredential
      else
        unlockAnswer
          { s with lock := { s.lock with state := .unlocked which, relock := some (s.now + relockTime) } } .ok

/-- The lock returns to LOCKED: no unlocking credential, no relock timer (R154, R155). -/
def relock (s : State) : State := { s with lock := { s.lock with state := .locked, relock := none } }

/-- LOCK (R155). -/
def ownerLock (s : State) : State × Answer :=
  match s.lock.state with
  | .opened => (s, plain .state)
  | .locked => (s, plain .ok)
  | .unlocked _ => (relock s, plain .ok)

/-- FREEZE (R158). -/
def ownerFreeze (s : State) : State × Answer := ({ s with lock := { s.lock with frozen := true } }, plain .ok)

/-- The relock timer of an UNLOCKED lock has expired; it runs in park (R154). -/
def relockDue (s : State) : Bool := (unlockingCredential s.lock.state).isSome && timerDue s.lock.relock s.now

/-- Expiry of the relock timer, where it is due (R154). -/
def takeRelockExpiry (s : State) : State := if relockDue s then relock s else s

end Sys2Proof.Machine
end

