-- ==== Sys2Proof/Machine/Forward.lean ====
section
/-! DEFINITION. Frame forwarding (spec/09): identifier block, protected set, consumption, pass table, FIFOs, transmit
ports, counters, bus-off. -/

namespace Sys2Proof.Machine

/-! ### Identifiers (R161 to R164) -/

/-- A frame's identifier lies in the part's identifier block (R161). -/
def inBlock (s : State) (f : Frame) : Bool :=
  f.extended && decide (blockStart s.port.address ≤ f.ident) && decide (f.ident ≤ blockStart s.port.address + 15)

/-- A frame is at the command identifier (R161). -/
def atCommandIdentifier (s : State) (f : Frame) : Bool :=
  f.extended && decide (f.ident = blockStart s.port.address)

/-- A frame's identifier is in the protected set as it stands (R162). -/
def isProtected (c : Calibration) (f : Frame) : Bool := f.extended && (protectedSet c).contains f.ident

/-- The owners of consumed field frames (R163). -/
inductive FieldOwner where
  | probe (l : LineId)
  | air (l : LineId)
  | valve (l : LineId)
  deriving DecidableEq, Repr

/-- The owner of an identifier among one line's (R163). -/
def ownerOnLine (c : Calibration) (l : LineId) (ident : Nat) : Option FieldOwner :=
  if ident = (c.lines.get l).probeId then some (.probe l)
  else if ident = (c.lines.get l).airId then some (.air l)
  else if ident = (c.lines.get l).valveId + 1 then some (.valve l)
  else none

/-- The owner of a field frame (R163). -/
def fieldOwner (c : Calibration) (f : Frame) : Option FieldOwner :=
  if f.extended then ownerOnLine c .line1 f.ident <|> ownerOnLine c .line2 f.ident else none

/-- A consumed field frame is handed to its owner, whatever its data holds (R163). -/
def consume (f : Frame) (s : State) : State :=
  match fieldOwner s.cal f with
  | none => s
  | some (.probe l) => takeProbeFrame l f.data s
  | some (.air l) => takeAirFrame l f.data s
  | some (.valve l) => takeValveFrame l f.data s

/-! ### Counters (R173) -/

/-- The state with the counters of a direction changed. -/
def State.modCounters (s : State) (d : Direction) (f : Counters → Counters) : State :=
  match d with
  | .cabToField => { s with forward := { s.forward with countToField := f s.forward.countToField } }
  | .fieldToCab => { s with forward := { s.forward with countToCab := f s.forward.countToCab } }

/-- One forwarded frame more. -/
def addForwarded (c : Counters) : Counters := { c with forwarded := sat16 c.forwarded }

/-- One full drop more. -/
def addFullDrop (c : Counters) : Counters := { c with fullDrop := sat16 c.fullDrop }

/-- One table drop more. -/
def addTableDrop (c : Counters) : Counters := { c with tableDrop := sat16 c.tableDrop }

/-- One gated drop more. -/
def addGatedDrop (c : Counters) : Counters := { c with gatedDrop := sat16 c.gatedDrop }

/-- `n` protected drops more. -/
def addProtectedDrops (n : Nat) (c : Counters) : Counters := { c with protectedDrop := satAdd 65535 c.protectedDrop n }

/-! ### Lookup (R168, R169) -/

/-- An entry decides a frame of a direction (R168). -/
def entryMatches (d : Direction) (ident : Nat) (e : PassEntry) : Bool :=
  e.inUse && decide (e.direction = d) && decide (ident &&& e.mask = e.matchValue &&& e.mask)

/-- The first entry in effect that decides a frame, in index order (R168). -/
def lookupEntry (table : Vector PassEntry 24) (d : Direction) (ident : Nat) : Option PassEntry :=
  table.toList.find? (entryMatches d ident)

/-- FLOWING, SLOWDOWN or STOPPING (R169). -/
def LineState.opensGate : LineState → Bool
  | .flowing | .slowdown | .stopping => true
  | _ => false

/-- The gate of an entry is open (R169). -/
def gateOpen (s : State) : Gate → Bool
  | .line1 => (s.lineState .line1).opensGate
  | .line2 => (s.lineState .line2).opensGate
  | .either => (s.lineState .line1).opensGate || (s.lineState .line2).opensGate

/-- What becomes of a looked-up frame. -/
inductive Verdict where
  | pass
  | tableDrop
  | gatedDrop
  deriving DecidableEq, Repr

/-- The verdict of a default action (R168). -/
def defaultVerdict : DefaultAction → Verdict
  | .pass => .pass
  | .drop => .tableDrop

/-- The default action of a direction (R168). -/
def defaultOf (st : Settings) : Direction → DefaultAction
  | .cabToField => st.toField
  | .fieldToCab => st.toCab

/-- The verdict of an entry (R168, R169). -/
def entryVerdict (s : State) (e : PassEntry) : Verdict :=
  match e.action with
  | .pass => .pass
  | .drop => .tableDrop
  | .passWhenFlowing => if gateOpen s e.gate then .pass else .gatedDrop

/-- The lookup of a frame; an 11-bit frame takes the default action directly (R168). -/
def verdict (s : State) (d : Direction) (f : Frame) : Verdict :=
  if f.extended then
    match lookupEntry s.forward.effect d f.ident with
    | some e => entryVerdict s e
    | none => defaultVerdict (defaultOf s.settings d)
  else defaultVerdict (defaultOf s.settings d)

/-! ### FIFOs (R170) -/

/-- The room of a forward FIFO (R170). -/
def fifoRoom : Nat := 32

/-- A FIFO by its direction. -/
def fifo (w : Forwarding) : Direction → List Frame
  | .cabToField => w.toField
  | .fieldToCab => w.toCab

/-- A passed frame joins the tail of its FIFO, or is dropped at a full one (R170). -/
def joinFifo (d : Direction) (f : Frame) (s : State) : State :=
  if fifoRoom ≤ (fifo s.forward d).length then s.modCounters d addFullDrop
  else
    match d with
    | .cabToField => { s with forward := { s.forward with toField := s.forward.toField ++ [f] } }
    | .fieldToCab => { s with forward := { s.forward with toCab := s.forward.toCab ++ [f] } }

/-- A frame that reaches step 3 of R160: looked up, then queued or dropped (R168 to R170). -/
def forwardFrame (d : Direction) (f : Frame) (s : State) : State :=
  match verdict s d f with
  | .pass => joinFifo d f s
  | .tableDrop => s.modCounters d addTableDrop
  | .gatedDrop => s.modCounters d addGatedDrop

/-! ### Field-link arrivals (R160, R163, R164, R175) -/

/-- The part hears a link: supplied, not bus-off, neither parked nor in the wake delay (R160). -/
def fieldHeard (s : State) : Bool := !s.forward.fieldOff && !s.power.parked && s.power.wakeDelay.isNone

/-- A frame arrives on the field link (R160). In holdup it is consumed, not looked up, and nothing is counted (R175;
entry 18). The lookup sees the line states that the owner has left (entry 19). -/
def takeFieldFrame (f : Frame) (s : State) : State :=
  if !fieldHeard s then s
  else if inBlock s f then
    (if s.power.holdup then s else s.modCounters .fieldToCab (addProtectedDrops 1))
  else
    let s := consume f s
    if s.power.holdup then s else forwardFrame .fieldToCab f s

/-! ### Transmit ports (R171, R172) -/

/-- Both ports take frames: not parked, not in the wake delay (R175, R199). -/
def portsRun (s : State) : Bool := !s.power.parked && s.power.wakeDelay.isNone

/-- The field transmit port is free to take a frame (R171, R174). -/
def fieldPortFree (s : State) : Bool := portsRun s && s.forward.txField.isNone && !s.forward.fieldOff

/-- The cab transmit port is free to take a frame (R171, R174). -/
def cabPortFree (s : State) : Bool := portsRun s && s.forward.txCab.isNone && !s.forward.cabOff

/-- A frame goes into transmission on the field link. -/
def sendField (f : Frame) (forwarded : Bool) (s : State) : State :=
  { s with forward := { s.forward with txField := some { frame := f, forwarded := forwarded, performs := none } } }

/-- A frame goes into transmission on the cab link. -/
def sendCab (f : Frame) (forwarded : Bool) (performs : Option ResetKind) (s : State) : State :=
  { s with forward := { s.forward with txCab := some { frame := f, forwarded := forwarded, performs := performs } } }

/-- The valve command frame, built when it is taken (R103, R171, R192). -/
def valveFrame (s : State) (l : LineId) (st : Stage) : Frame :=
  ownFieldFrame (s.cal.lines.get l).valveId (b1 st.code)

/-- The pump-stop frame, built when it is taken (R113, R171, R192). -/
def pumpFrame (s : State) (p : PumpStop) : Frame :=
  ownFieldFrame s.cal.pumpStopId (b1 p.reason.code ++ b1 (lineField p.line))

/-- The valve command of a line leaves its slot (R171). -/
def sendValve (l : LineId) (st : Stage) (s : State) : State :=
  sendField (valveFrame s l st) false (s.modValve l fun v => { v with slot := none })

/-- The head of the cab-to-field FIFO after the protected test: protected frames at the head are dropped and counted,
and the next considered; in holdup the FIFO is not served (R162, R171, R175). -/
def sendForwarded (s : State) : State :=
  if s.power.holdup then s
  else
    let waiting := s.forward.toField
    let kept := waiting.dropWhile (isProtected s.cal)
    let s := s.modCounters .cabToField (addProtectedDrops (waiting.length - kept.length))
    match kept with
    | [] => { s with forward := { s.forward with toField := [] } }
    | f :: rest => sendField f true { s with forward := { s.forward with toField := rest } }

/-- The field transmit port takes the next frame, in its order (R171). -/
def takeFieldPort (s : State) : State :=
  if !fieldPortFree s then s
  else
    match s.valve.line1.slot, s.valve.line2.slot, s.pumpSlot with
    | some st, _, _ => sendValve .line1 st s
    | none, some st, _ => sendValve .line2 st s
    | none, none, some p => sendField (pumpFrame s p) false { s with pumpSlot := none }
    | none, none, none => sendForwarded s

/-- The line whose status request the cab port takes: in rotation, Line 1 first after a reset (R172). -/
def requestedLine (r : Reports) : Option LineId :=
  match r.lines.line1, r.lines.line2 with
  | true, true => if r.lastLine = some .line1 then some .line2 else some .line1
  | true, false => some .line1
  | false, true => some .line2
  | false, false => none

/-- The offset of a line's status identifier (R177). -/
def statusOffset : LineId → Nat
  | .line1 => 2
  | .line2 => 3

/-- The line status frame of a line, built when its request is taken (R187). -/
def lineStatusFrame (s : State) (l : LineId) : Frame :=
  ownCabFrame s.port.address (statusOffset l) (lineStatusBytes s l)

/-- The device status frame, built when its request is taken (R189). -/
def deviceStatusFrame (s : State) : Frame := ownCabFrame s.port.address 4 (deviceStatusBytes s)

/-- The cab port takes a line's status request (R172, R187). -/
def sendLineStatus (l : LineId) (s : State) : State :=
  sendCab (lineStatusFrame s l) false none
    { s with reports := { s.reports with lines := s.reports.lines.set l false, lastLine := some l } }

/-- The cab port takes the head of the field-to-cab FIFO; not in holdup (R172, R195). -/
def sendToCab (s : State) : State :=
  match s.power.holdup, s.forward.toCab with
  | false, f :: rest => sendCab f true none { s with forward := { s.forward with toCab := rest } }
  | _, _ => s

/-- The cab transmit port takes the next frame, in its order (R172). -/
def takeCabPort (s : State) : State :=
  if !cabPortFree s then s
  else
    match s.port.responses with
    | r :: rest => sendCab r.frame false r.performs { s with port := { s.port with responses := rest } }
    | [] =>
      if s.reports.device then
        sendCab (deviceStatusFrame s) false none { s with reports := { s.reports with device := false } }
      else
        match requestedLine s.reports with
        | some l => sendLineStatus l s
        | none => sendToCab s

/-! ### Bus-off (R174) -/

/-- A link enters bus-off; its frame in transmission is held (R174). -/
def enterBusOff (k : Link) (s : State) : State :=
  match k with
  | .cab => { s with forward := { s.forward with cabOff := true } }
  | .field => { s with forward := { s.forward with fieldOff := true } }

/-- A held frame of the field port is one from the FIFO whose identifier is now protected (R174). -/
def heldIsProtected (s : State) : Bool :=
  match s.forward.txField with
  | none => false
  | some t => t.forwarded && isProtected s.cal t.frame

/-- A link recovers; a held cab-to-field frame that is now protected is dropped and counted (R174). -/
def recoverBusOff (k : Link) (s : State) : State :=
  match k with
  | .cab => { s with forward := { s.forward with cabOff := false } }
  | .field =>
    if s.forward.fieldOff && heldIsProtected s then
      let s := { s with forward := { s.forward with fieldOff := false, txField := none } }
      s.modCounters .cabToField (addProtectedDrops 1)
    else { s with forward := { s.forward with fieldOff := false } }

/-! ### Pass table and counter commands (R165 to R167, R173) -/

/-- The fields of an entry in a response, in the order of R165. -/
def entryData (e : PassEntry) : List Byte :=
  yesNo e.inUse ++ b1 e.direction.code ++ b4 e.matchValue ++ b4 e.mask ++ b1 e.action.code ++ b1 e.gate.code
    ++ yesNo e.persist

/-- The greatest 29-bit value. -/
def last29 : Nat := 0x1FFFFFFF

/-- The entry that WRITE PASS ENTRY carries; none where R166 refuses it. -/
def carriedEntry (direction matchValue mask action gate persist : Nat) : Option PassEntry :=
  match Direction.ofCode direction, Action.ofCode action, Gate.ofCode gate, yesNoOfCode persist with
  | some d, some a, some g, some p =>
    if matchValue ≤ last29 ∧ mask ≤ last29 then
      some { inUse := true, direction := d, matchValue := matchValue, mask := mask, action := a, gate := g,
             persist := p }
    else none
  | _, _, _, _ => none

/-- The pass tables with an entry in effect, and where `persist` holds the stored entry, replaced. -/
def putEntry (i : Fin 24) (e : PassEntry) (persist : Bool) (w : Forwarding) : Forwarding :=
  { w with effect := w.effect.set i e, stored := if persist then w.stored.set i e else w.stored }

/-- WRITE PASS ENTRY (R166). -/
def ownerWritePassEntry (index direction matchValue mask action gate persist : Nat) (s : State) : State × Answer :=
  match passIndexOfNumber index, carriedEntry direction matchValue mask action gate persist with
  | some i, some e =>
    ({ s with forward := putEntry i e e.persist s.forward }, .reply .ok (entryData e))
  | _, _ => (s, plain .parameter)

/-- DELETE PASS ENTRY (R167). -/
def ownerDeletePassEntry (index : Nat) (s : State) : State × Answer :=
  match passIndexOfNumber index with
  | none => (s, plain .parameter)
  | some i => ({ s with forward := putEntry i .cleared true s.forward }, plain .ok)

/-- READ PASS ENTRY (R167). -/
def ownerReadPassEntry (index : Nat) (s : State) : State × Answer :=
  match passIndexOfNumber index with
  | none => (s, plain .parameter)
  | some i => (s, .reply .ok (entryData s.forward.effect[i] ++ yesNo s.forward.stored[i].inUse))

/-- The five counters of a direction in a response, in the order of R173. -/
def counterData (c : Counters) : List Byte :=
  b2 c.forwarded ++ b2 c.fullDrop ++ b2 c.tableDrop ++ b2 c.gatedDrop ++ b2 c.protectedDrop

/-- READ FORWARDING COUNTERS (R173; entry 17). -/
def ownerReadForwardingCounters (s : State) : State × Answer :=
  (s, .reply .ok (counterData s.forward.countToField ++ counterData s.forward.countToCab))

/-- CLEAR FORWARDING COUNTERS (R173). -/
def ownerClearForwardingCounters (s : State) : State × Answer :=
  ({ s with forward := { s.forward with countToField := .zero, countToCab := .zero } }, plain .ok)

end Sys2Proof.Machine
end

