-- ==== Sys2Proof/Machine/Setup.lean ====
section
/-! DEFINITION. Settings, clock and device conditions: their commands (spec/10, R182 to R190). -/

namespace Sys2Proof.Machine

/-- The range of a setting (R182); a default action is coded 0 for PASS and 1 for DROP. -/
def settingRange : SettingSel → Int × Int
  | .address => (0, 63)
  | .reportInterval => (100, 5000)
  | .noFlow _ => (10, 600)
  | .softStart _ => (0, 20000)
  | .slowdown _ => (0, 100000)
  | .closeAhead _ => (0, 5000)
  | .airHold => (10, 600)
  | .toField => (0, 1)
  | .toCab => (0, 1)

/-- A value clamped into a setting's range (R182). -/
def clampSetting (sel : SettingSel) (v : Int) : Int := clampInt (settingRange sel).1 (settingRange sel).2 v

/-- The code of a default action (R182). -/
def DefaultAction.code : DefaultAction → Nat
  | .pass => 0
  | .drop => 1

/-- The default action of a code in range. -/
def defaultActionOf (v : Int) : DefaultAction := if v = 0 then .pass else .drop

/-- The value of a setting. -/
def getSetting (st : Settings) : SettingSel → Int
  | .address => st.address
  | .reportInterval => st.reportInterval
  | .noFlow l => (st.lines.get l).noFlow
  | .softStart l => (st.lines.get l).softStart
  | .slowdown l => (st.lines.get l).slowdown
  | .closeAhead l => (st.lines.get l).closeAhead
  | .airHold => st.airHold
  | .toField => st.toField.code
  | .toCab => st.toCab.code

/-- The settings with one line's changed. -/
def modLineSettings (l : LineId) (f : LineSettings → LineSettings) (st : Settings) : Settings :=
  { st with lines := st.lines.set l (f (st.lines.get l)) }

/-- The settings with a setting at a value of its range. -/
def putSetting (sel : SettingSel) (v : Int) (st : Settings) : Settings :=
  match sel with
  | .address => { st with address := v.toNat }
  | .reportInterval => { st with reportInterval := v.toNat }
  | .noFlow l => modLineSettings l (fun x => { x with noFlow := v.toNat }) st
  | .softStart l => modLineSettings l (fun x => { x with softStart := v }) st
  | .slowdown l => modLineSettings l (fun x => { x with slowdown := v }) st
  | .closeAhead l => modLineSettings l (fun x => { x with closeAhead := v }) st
  | .airHold => { st with airHold := v.toNat }
  | .toField => { st with toField := defaultActionOf v }
  | .toCab => { st with toCab := defaultActionOf v }

/-- WRITE SETTING (R182). -/
def ownerWriteSetting (setting line : Nat) (value : Int) (persist : Nat) (s : State) : State × Answer :=
  match settingOf setting line, yesNoOfCode persist with
  | some sel, some keep =>
    let v := clampSetting sel value
    let s := { s with
      settings := putSetting sel v s.settings
      storedSettings := if keep then putSetting sel v s.storedSettings else s.storedSettings }
    (s, .reply .ok (b1 setting ++ b1 line ++ s4 (getSetting s.settings sel) ++ s4 (getSetting s.storedSettings sel)))
  | _, _ => (s, plain .parameter)

/-- READ SETTING (R182). -/
def ownerReadSetting (setting line : Nat) (s : State) : State × Answer :=
  match settingOf setting line with
  | none => (s, plain .parameter)
  | some sel => (s, .reply .ok (s4 (getSetting s.settings sel) ++ s4 (getSetting s.storedSettings sel)))

/-- RESTORE DEFAULTS (R184). -/
def ownerRestoreDefaults (s : State) : State × Answer :=
  ({ s with settings := .defaults, storedSettings := .defaults }, plain .ok)

/-- SET TIME (R185). -/
def ownerSetTime (time : Nat) (s : State) : State × Answer :=
  ({ s with clock := { count := time, isSet := true } }, .reply .ok (b4 time))

/-- READ DEVICE STATUS (R189). An absent principal condition reads 0, as in the device status frame (entry 40). -/
def ownerReadDeviceStatus (s : State) : State × Answer :=
  (raiseDeviceStatus s, .reply .ok (b1 (conditions s).bits ++ b1 (conditions s).principal))

/-- CLEAR CONDITION (R190). -/
def ownerClearCondition (rank : Nat) (s : State) : State × Answer :=
  if rank < 1 ∨ 8 < rank then (s, plain .parameter)
  else if rank = 4 then ({ s with journalDamage := false }, plain .ok)
  else (s, plain .state)

end Sys2Proof.Machine
end

