-- ==== Sys2Proof/Machine/JournalCommands.lean ====
section
/-! DEFINITION. The journal's commands (R129, R131, R132): the read-out of a record in two parts, release, and the
journal's state. -/

namespace Sys2Proof.Machine

/-- The places that the response slot holds (R180). -/
def responsePlaces : Nat := 4

/-- The places of the response slot that an answer may take: one is kept while a calibration-class command is in
flight (R180). -/
def freePlaces (s : State) : Nat :=
  responsePlaces - s.port.responses.length - (if s.port.inFlight.isSome then 1 else 0)

/-! ### Read-out (R192) -/

/-- Integrity codes: INTACT, DAMAGED (R128, R192). -/
def integrityCode (intact : Bool) : Nat := if intact then 0 else 1

/-- Part 1 of a record from byte 3 of its response frame. -/
def recordPart1 (r : JournalRecord) : List Byte :=
  b1 1 ++ b4 r.sequence ++ b1 r.kind.code ++ b1 (integrityCode r.intact) ++ yesNo r.released
    ++ b2 (storedMask r.contents) ++ storedFields1 r.kind r.contents

/-- Part 2 of a record from byte 3 of its response frame. -/
def recordPart2 (r : JournalRecord) : List Byte := b1 2 ++ b4 r.sequence ++ storedFields2 r.kind r.contents

/-! ### Commands -/

/-- A reservation bears a sequence number: its write waits or is in progress (R126, R129). -/
def writePending (j : Journal) (sequence : Nat) : Bool :=
  j.reservations.any fun r => decide (r.sequence = some sequence)

/-- A record is read: its two parts, and JOURNAL_DAMAGE where it is found DAMAGED (R128). -/
def readOut (r : JournalRecord) (s : State) : State × Answer :=
  ({ s with journalDamage := s.journalDamage || !r.intact }, .record (recordPart1 r) (recordPart2 r))

/-- READ RECORD (R129); with room for one frame alone, an OK becomes BUSY and nothing is read (R180). -/
def ownerReadRecord (sequence : Nat) (s : State) : State × Answer :=
  if sequence = 0 ∨ s.journal.newestSeq < sequence then (s, plain .notFound)
  else if writePending s.journal sequence then (s, plain .busy)
  else
    match findRecord s.journal sequence with
    | none => (s, plain .notFound)
    | some r => if freePlaces s < 2 then (s, plain .busy) else readOut r s

/-- RELEASE THROUGH (R131; width of the count, entry 13). -/
def ownerReleaseThrough (sequence : Nat) (s : State) : State × Answer :=
  if s.journal.newestWritten < sequence then (s, plain .parameter)
  else
    ({ s with journal := releaseThrough sequence s.journal },
     .reply .ok (b2 (releasedBy sequence s.journal) ++ b4 s.journal.newestWritten))

/-- The unreleased records (R132). -/
def unreleasedCount (j : Journal) : Nat := (j.records.filter fun r => !r.released).length

/-- READ JOURNAL STATE (R132; widths of the counts, entry 13). -/
def ownerReadJournalState (s : State) : State × Answer :=
  let j := s.journal
  (s, .reply .ok (b2 journalPlaces ++ b2 (emptyPlaces j) ++ b2 j.records.length ++ b2 (unreleasedCount j)
    ++ b2 j.reservations.length ++ b1 j.queue.length ++ b4 j.newestSeq ++ b4 j.newestWritten ++ b4 j.newestTicket))

end Sys2Proof.Machine
end

