-- ==== Sys2Proof/Machine/Power.lean ====
section
/-! DEFINITION. Power (spec/11): holdup, power-on, park and restart; and the loss of supply. -/

namespace Sys2Proof.Machine

/-! ### Holdup (R194) -/

/-- The part enters holdup: flowing lines stop, CLOSE goes to both valves, a pump stop is placed, and a pending PARK
or RESTART is abandoned (R194, R112). A running wake delay goes on (entry 22). -/
def enterHoldup (s : State) : State :=
  let s := stopOn .line2 .powerLoss (stopOn .line1 .powerLoss s)
  let s := closeBothValves .powerLoss s
  { s with power := { s.power with holdup := true }, port := { s.port with pendingReset := none } }

/-- A parked part leaves park at an assertion of POWER_FAIL, with no wake delay (R194). -/
def endPark (s : State) : State := if s.power.parked then wakeActions s else s

/-- The POWER_FAIL input is asserted or released. -/
def setFailPin (asserted : Bool) (s : State) : State := { s with power := { s.power with failPin := asserted } }

/-- An assertion of POWER_FAIL at the powered part (R194). -/
def takePowerFail (s : State) : State := if s.power.holdup then s else enterHoldup (endPark s)

/-! ### Power-on (R196, R197) -/

/-- The state in which a line comes up (R197). -/
def restoredState : LineState → LineState
  | .idle => .idle
  | .armed => .armed
  | .closing => .closing
  | _ => .interrupted

/-- A line's copy as the line comes up, with the INTERRUPTED flag where it comes up INTERRUPTED (R197). -/
def restoredCopy (k : LineCopy) : LineCopy :=
  { k with
    state := restoredState k.state
    ctx :=
      if restoredState k.state = .interrupted then
        k.ctx.map fun d => { d with flags := { d.flags with interrupted := true } }
      else k.ctx }

/-- A line controller restored from its copy (R101, R196 step 2), with its report timer outside IDLE (R186, R196
step 7). -/
def restoredLine (s : State) (l : LineId) : Line :=
  let ln := Line.powered (restoredCopy (s.store.get l)) s.awake
  { ln with
    report := if ln.kept.state = .idle then none else some (s.awake + s.storedSettings.reportInterval * 1000) }

/-- The clock at power-on is UNSET; RESTART keeps it (R185, R200; entry 24). -/
def restoredClock (keepClock : Bool) (c : Clock) : Clock := if keepClock then c else { count := 0, isSet := false }

/-- Forwarding at power-on: entries from the stored ones, everything else empty (R176). -/
def restoredForwarding (w : Forwarding) : Forwarding :=
  { effect := w.stored, stored := w.stored, toField := [], toCab := [], txField := none, txCab := none,
    fieldOff := false, cabOff := false, countToField := .zero, countToCab := .zero }

/-- Steps 1, 2 and 7 of power-on, which read nothing that the steps between them change: volatile state, restored
lines, status requests (R196; R15, R115, R176, R182, R185, R191). -/
def restoreVolatile (keepClock : Bool) (s : State) : State :=
  { s with
    clock := restoredClock keepClock s.clock
    power := { on := true, failPin := s.power.failPin, holdup := false, releaseWaiting := false, parked := false,
               wakeDelay := none }
    pulse := { line1 := .cleared s.awake, line2 := .cleared s.awake }
    line := { line1 := restoredLine s .line1, line2 := restoredLine s .line2 }
    valve := { line1 := .powered s.awake, line2 := .powered s.awake }
    pumpSlot := none
    forward := restoredForwarding s.forward
    port := { address := s.storedSettings.address, responses := [], inFlight := none, previous := none,
              pendingReset := none }
    reports := { lines := { line1 := true, line2 := true }, device := true, lastLine := none }
    settings := s.storedSettings
    journalDamage := false }

/-- Step 3: the journal repairs its reservations (R134). -/
def repairJournal (s : State) : State := { s with journal := repairReservations (copies s) s.journal }

/-- What the check of the newest CALIBRATION record does with it (R135, R150). DESIGN CHOICE, entry 34: an INTACT record
whose fields name no item, which a failure of the storage medium can leave, changes nothing. -/
def checkRecord (r : JournalRecord) (s : State) : State :=
  if !r.intact then { s with journal := discardRecord r.sequence s.journal, journalDamage := true }
  else
    match calibrationOf r.contents with
    | some c => if c.newCount = s.cal.eventCount + 1 then rollForward c s else s
    | none => s

/-- Step 4: the newest CALIBRATION record is checked (R135). -/
def checkNewestCalibration (s : State) : State :=
  match newestCalibration s.journal with
  | none => s
  | some r => checkRecord r s

/-- Step 5: the lock's volatile part (R151; the staged credential, entry 35). -/
def restoreLock (s : State) : State :=
  { s with lock := { s.lock with
      staged := none
      state := if s.lock.inspector.isSome then .locked else .opened
      attempts := 5
      frozen := false
      relock := none } }

/-- Step 6: lines restored in CLOSING request the rewrite of their records (R136). DESIGN CHOICE, entry 44: of the two
orders that R136 allows, Line 1's rewrite is queued before Line 2's. -/
def requestRewrites (s : State) : State :=
  let s := requestRewrite s .line1
  requestRewrite s .line2

/-- Steps 1 to 7 of power-on (R196). -/
def restore (keepClock : Bool) (s : State) : State :=
  requestRewrites (restoreLock (checkNewestCalibration (repairJournal (restoreVolatile keepClock s))))

/-- Power-on (R196); a standing POWER_FAIL is taken as an assertion at its last step. -/
def runPowerOn (keepClock : Bool) (s : State) : State :=
  let s := restore keepClock s
  if s.power.failPin then enterHoldup s else s

/-- A release of POWER_FAIL in holdup: power-on at once, or at the completion of the write in progress (R195). -/
def takeRelease (s : State) : State :=
  if !s.power.holdup then s
  else if s.journal.queue.isEmpty then runPowerOn false s
  else { s with power := { s.power with releaseWaiting := true } }

/-! ### Park and restart (R198, R200) -/

/-- A count or a flow rate is not 0 (R14, R198 check 2). -/
def inputActive (p : PulseInput) : Bool := !(p.flow == 0 && p.forward == 0 && p.reverse == 0)

/-- A wake is pending at either pulse input (R198). -/
def wakePending (s : State) : Bool := inputActive s.pulse.line1 || inputActive s.pulse.line2

/-- A PARK or RESTART becomes pending (R198, R200). -/
def setPending (k : ResetKind) (s : State) : State := { s with port := { s.port with pendingReset := some k } }

/-- PARK (R198). -/
def ownerPark (s : State) : State × Answer :=
  if !bothIdle s then (s, plain .state)
  else if wakePending s then (s, plain .wakePending)
  else (setPending .park s, plain .ok)

/-- No valve command and no pump stop is pending in a slot. -/
def emptySlots (s : State) : State :=
  { s with
    valve := { line1 := { s.valve.line1 with slot := none }, line2 := { s.valve.line2 with slot := none } }
    pumpSlot := none }

/-- RESTART (R200): what is pending in a slot when it is accepted is discarded (R115; entry 51). -/
def ownerRestart (s : State) : State × Answer :=
  if !bothIdle s then (s, plain .state) else (setPending .restart (emptySlots s), plain .ok)

/-- The pending state ends. -/
def clearPending (s : State) : State := { s with port := { s.port with pendingReset := none } }

/-- The part enters park: the FIFOs are emptied (R175, R198). -/
def enterPark (s : State) : State :=
  { s with power := { s.power with parked := true }, forward := { s.forward with toField := [], toCab := [] } }

/-- The pending park is performed, unless its second check now fails (R198). -/
def performPark (s : State) : State := if wakePending s then clearPending s else enterPark (clearPending s)

/-- The pending restart is performed: a final tick of each line, then power-on with the clock kept (R16, R200). -/
def performRestart (s : State) : State :=
  let s := tick .line2 (tick .line1 s)
  runPowerOn true { s with store := copies s }

/-- The request that a departed response performs, where it still stands (R194, R198, R200). -/
def performReset (k : ResetKind) (s : State) : State :=
  if s.port.pendingReset = some k then
    match k with
    | .park => performPark s
    | .restart => performRestart s
  else s

/-! ### Transmission completion (R171, R173) -/

/-- A completed frame from a FIFO is counted (R173). -/
def countForwarded (d : Direction) (t : Transmission) (s : State) : State :=
  if t.forwarded then s.modCounters d addForwarded else s

/-- What the completed transmission performs (R198, R200). -/
def performCompletion (t : Transmission) (s : State) : State :=
  match t.performs with
  | none => s
  | some k => performReset k s

/-- A transmission completes on a link: the port is free, the frame counted, a pending park or restart performed. A
bus-off link completes none (R171, R174). -/
def takeTransmission (k : Link) (s : State) : State :=
  match k with
  | .field =>
    match s.forward.fieldOff, s.forward.txField with
    | false, some t => countForwarded .cabToField t { s with forward := { s.forward with txField := none } }
    | _, _ => s
  | .cab =>
    match s.forward.cabOff, s.forward.txCab with
    | false, some t =>
      performCompletion t (countForwarded .fieldToCab t { s with forward := { s.forward with txCab := none } })
    | _, _ => s

/-! ### Wake delay and loss of supply -/

/-- The wake delay has ended (R199). -/
def wakeDelayDue (s : State) : Bool := timerDue s.power.wakeDelay s.awake

/-- The end of the wake delay, where it is due (R199). -/
def takeWakeDelayEnd (s : State) : State :=
  if wakeDelayDue s then { s with power := { s.power with wakeDelay := none } } else s

/-- The supply fails between the journal store and the calibration store of a completing CALIBRATION write: the record
is in the journal, and the change is not (R117, R149). -/
def storeFirstOnly (s : State) : State :=
  match s.journal.queue with
  | [] => s
  | w :: rest =>
    match w.contents with
    | .calibration _ => { s with journal := completeWrite w rest s.journal }
    | .delivery _ => s

/-- The supply fails (R195; entries 7 and 8). -/
def loseSupply (betweenStores : Bool) (s : State) : State :=
  if s.power.on then
    let s := if betweenStores then storeFirstOnly s else s
    { s with power := { s.power with on := false } }
  else s

/-! ### Storage-medium failure (R128) -/

/-- A record after a failure of the storage medium at its sequence number: the fields and the stored check value that the
failure leaves, whatever they are, and its directory entry as it was (R117, R128). A later read finds by the check value
whether the record is DAMAGED. -/
def damageRecord (sequence : Nat) (left : StoredContents) (r : JournalRecord) : JournalRecord :=
  if r.sequence = sequence then { r with contents := .changed left.fields, check := left.check } else r

/-- A failure of the storage medium at the record of a sequence number (R128; entries 11 and 34). -/
def damageJournal (sequence : Nat) (left : StoredContents) (s : State) : State :=
  { s with journal := { s.journal with records := s.journal.records.map (damageRecord sequence left) } }

end Sys2Proof.Machine
end

