-- ==== Sys2Proof/Machine/Port.lean ====
section
/-! DEFINITION. The command port (spec/10, R177 to R181): every command frame, from its reception to its answer; the
other cab frames (R160 to R162); and the completion of a journal write, which may answer the command in flight. -/

namespace Sys2Proof.Machine

/-- The owning block decides a command (spec/10, commands by owner). -/
def runCommand (c : Command) (s : State) : State × Answer :=
  match c with
  | .arm line order compartment => ownerArm line order compartment s
  | .armFlush line compartment => ownerArmFlush line compartment s
  | .disarm line => ownerDisarm line s
  | .start line => ownerStart line s
  | .pause line => ownerPause line s
  | .resume line => ownerResume line s
  | .stop line => ownerStop line s
  | .endDelivery line => ownerEnd line s
  | .emergencyStop => ownerEmergencyStop s
  | .readLineStatus line => ownerReadLineStatus line s
  | .readTotalizers line => ownerReadTotalizers line s
  | .loadOrder order product preset price customer => ownerLoadOrder order product preset price customer s
  | .removeOrder order => ownerRemoveOrder order s
  | .readOrder position => ownerReadOrder position s
  | .loadCompartment compartment product volume reserve => ownerLoadCompartment compartment product volume reserve s
  | .readCompartment compartment => ownerReadCompartment compartment s
  | .readProduct product => ownerReadProduct product s
  | .readRecord sequence => ownerReadRecord sequence s
  | .releaseThrough sequence => ownerReleaseThrough sequence s
  | .readJournalState => ownerReadJournalState s
  | .readCalibrationIdentity => ownerReadCalibrationIdentity s
  | .readCalibrationItem scope kind band => ownerReadCalibrationItem scope kind band s
  | .writeCalibrationItem quoted scope kind band value => ownerWriteCalibrationItem quoted scope kind band value s
  | .unlock kind credential => ownerUnlock kind credential s
  | .lock => ownerLock s
  | .setCredential kind credential level => ownerSetCredential kind credential level s
  | .removeLock => ownerRemoveLock s
  | .freeze => ownerFreeze s
  | .writePassEntry index direction matchValue mask action gate persist =>
    ownerWritePassEntry index direction matchValue mask action gate persist s
  | .deletePassEntry index => ownerDeletePassEntry index s
  | .readPassEntry index => ownerReadPassEntry index s
  | .readForwardingCounters => ownerReadForwardingCounters s
  | .clearForwardingCounters => ownerClearForwardingCounters s
  | .setTime time => ownerSetTime time s
  | .writeSetting setting line value persist => ownerWriteSetting setting line value persist s
  | .readSetting setting line => ownerReadSetting setting line s
  | .restoreDefaults => ownerRestoreDefaults s
  | .readDeviceStatus => ownerReadDeviceStatus s
  | .clearCondition rank => ownerClearCondition rank s
  | .park => ownerPark s
  | .restart => ownerRestart s

/-! ### Answers (R179, R180, R198, R200) -/

/-- What the departure of a response performs: the OK answers to PARK and RESTART (R198, R200). -/
def performsOf (code : Nat) (st : Status) : Option ResetKind :=
  if st ≠ .ok then none
  else if code = 0x66 then some .park
  else if code = 0x67 then some .restart
  else none

/-- A response frame: code, tag, status, data (R179, R192). -/
def responseFrame (address code tag : Nat) (st : Status) (data : List Byte) : Frame :=
  ownCabFrame address 1 (b1 code ++ b1 tag ++ b1 st.code ++ data)

/-- A response is placed at the tail of the response slot (R179, R180). -/
def placeResponse (code tag : Nat) (st : Status) (data : List Byte) (s : State) : State :=
  { s with port := { s.port with responses := s.port.responses ++
      [{ frame := responseFrame s.port.address code tag st data, performs := performsOf code st }] } }

/-- The answer of an owner is placed; an accepted calibration-class command becomes the command in flight (R129, R179,
R181). -/
def placeAnswer (code tag : Nat) (a : Answer) (s : State) : State :=
  match a with
  | .reply st data => placeResponse code tag st data s
  | .record part1 part2 => placeResponse code tag .ok part2 (placeResponse code tag .ok part1 s)
  | .inFlight => { s with port := { s.port with inFlight := some { code := code, tag := tag } } }

/-- The answer status that the port remembers (R178). -/
def Answer.status : Answer → AnswerStatus
  | .reply st _ => .answered st
  | .record _ _ => .answered .ok
  | .inFlight => .inFlight

/-- The previous command frame is replaced (R178). -/
def remember (code : Nat) (st : AnswerStatus) (s : State) : State :=
  { s with port := { s.port with previous := some { code := code, status := st } } }

/-! ### Taking a command frame (R178) -/

/-- STOP, PAUSE and EMERGENCY STOP are taken while a calibration-class command is in flight (R181). -/
def takenInFlight (code : Nat) : Bool := code == 0x14 || code == 0x16 || code == 0x18

/-- The port is held: by a command in flight, or by a pending PARK or RESTART (R178 step 3). -/
def portBusy (s : State) (code : Nat) : Bool :=
  (s.port.inFlight.isSome && !takenInFlight code) || s.port.pendingReset.isSome

/-- Steps 2 to 5 of the port's decision (R178). DESIGN CHOICE, entry 48: the port's own BUSY and PARAMETER carry no data
(R179), also for an UNLOCK or a WRITE CALIBRATION ITEM that its owner does not see, where R152 speaks of every response
and R145 of a refused write. -/
def decideCommand (code : Nat) (c : Option Command) (s : State) : State × Answer :=
  if !knownCode code then (s, plain .unknown)
  else if portBusy s code then (s, plain .busy)
  else
    match c with
    | none => (s, plain .parameter)
    | some c => runCommand c s

/-- A command frame with its code, its tag and the command that it spells (R178). -/
def takeCommandFrame (code tag : Nat) (c : Option Command) (s : State) : State :=
  if freePlaces s = 0 then remember code .none s
  else
    let r := decideCommand code c s
    remember code r.2.status (placeAnswer code tag r.2 r.1)

/-! ### Cab-link arrivals (R160 to R162, R175, R195, R199) -/

/-- The reception of a cab frame: lost at a bus-off link and in the wake delay, a wake source in park, discarded in
holdup; else handled (R160, R175, R195, R199). -/
def receiveCab (handle : State → State) (s : State) : State :=
  if s.forward.cabOff then s
  else if s.power.parked then wakeEvent s
  else if s.power.wakeDelay.isSome then s
  else if s.power.holdup then s
  else handle s

/-- Byte `i` of a frame's data; a missing byte reads as 0 (R178). -/
def dataByte (data : List Byte) (i : Nat) : Nat := (data.getD i 0).toNat

/-- The command that a frame's data spells (R178). -/
def commandOfData (data : List Byte) : Option Command := parseCommand (dataByte data 0) (data.drop 2)

/-- A received cab frame (R160 to R162, R168). -/
def handleCabFrame (f : Frame) (s : State) : State :=
  if inBlock s f then
    (if atCommandIdentifier s f then
      takeCommandFrame (dataByte f.data 0) (dataByte f.data 1) (commandOfData f.data) s
    else s)
  else if isProtected s.cal f then s.modCounters .cabToField (addProtectedDrops 1)
  else forwardFrame .cabToField f s

/-- The event of a command row: the arrival of its command frame at the command identifier (entry 6). -/
def takeCommand (tag : Nat) (c : Command) (s : State) : State :=
  event (receiveCab (takeCommandFrame c.code tag (some c))) s

/-! ### Write completion (R127, R148) -/

/-- The answer to the command in flight is placed, and the flight ends (R148, R181). -/
def answerInFlight (sequence : Nat) (s : State) : State :=
  match s.port.inFlight with
  | none => s
  | some i =>
    placeResponse i.code i.tag .ok (b4 s.cal.eventCount ++ b4 sequence) { s with port := { s.port with inFlight := none } }

/-- The requester acts on the completion of its write (R100, R127, R148, R154). -/
def reportCompletion (w : JournalWrite) (s : State) : State :=
  match w.holder, w.contents with
  | .line l, _ => closeLine l s
  | .calibration, .calibration r => answerInFlight w.sequence (restartRelock (completeRecord r s))
  | .calibration, .delivery _ => s

/-- The completion of the write in progress (R127); with a released POWER_FAIL waiting for it, power-on (R195). -/
def takeWriteCompletion (s : State) : State :=
  match s.journal.queue with
  | [] => s
  | w :: rest =>
    let s := reportCompletion w { s with journal := completeWrite w rest s.journal }
    if s.power.releaseWaiting then runPowerOn false { s with store := copies s } else s

end Sys2Proof.Machine
end

