-- ==== Sys2Proof/Machine/Time.lean ====
section
/-! DEFINITION. The part's own time base: which of its events is due, and the idle step (entries 3 and 38). -/

namespace Sys2Proof.Machine

/-- A period timer's overflow count has arrived at 31 and has not had its effect (R6). -/
def overflowDue (s : State) (l : LineId) : Bool :=
  let p := s.pulse.get l
  !s.power.parked && decide (overflowCount s.awake p = 31) && (decide (p.flow ≠ 0) || p.periodStart)

/-- The events of the time base at a line, each with whether it is due. -/
def lineEvents (s : State) (l : LineId) : List (Bool × Instr) :=
  [(overflowDue s l, .periodTimerOverflow l s.now),
   (tickDue s l, .meteringTick l s.now),
   (noFlowDue s l, .noFlowTimerExpiry l s.now),
   (airClearDue s l, .airClearTimerExpiry l s.now),
   (airHoldDue s l, .airHoldTimerExpiry l s.now),
   (airSilenceDue s l, .airSilenceExpiry l s.now),
   (reportDue s l, .reportTimerExpiry l s.now),
   (confirmDue s l, .confirmationTimerExpiry l s.now),
   (retryDue s l, .retryTimerExpiry l s.now)]

/-- The field transmit port is free and something is pending (R171). -/
def fieldPortWaits (s : State) : Bool :=
  fieldPortFree s && (s.valve.line1.slot.isSome || s.valve.line2.slot.isSome || s.pumpSlot.isSome
    || (!s.power.holdup && !s.forward.toField.isEmpty))

/-- The cab transmit port is free and something is pending (R172). -/
def cabPortWaits (s : State) : Bool :=
  cabPortFree s && (!s.port.responses.isEmpty || s.reports.device || (requestedLine s.reports).isSome
    || (!s.power.holdup && !s.forward.toCab.isEmpty))

/-- The events that the part brings by itself, in the order in which due ones are taken (entry 38). -/
def ownEvents (s : State) : List (Bool × Instr) :=
  lineEvents s .line1 ++ lineEvents s .line2 ++
    [(relockDue s, .relockTimerExpiry s.now), (wakeDelayDue s, .wakeDelayEnd s.now),
     (fieldPortWaits s, .fieldPortTake), (cabPortWaits s, .cabPortTake)]

/-- The first event that is due (entry 38). -/
def dueEvent (s : State) : Option Instr := ((ownEvents s).find? (·.1)).map (·.2)

/-- What a step does on an empty queue: the event that is due is queued, or one microsecond passes; without supply,
nothing (entry 3). -/
def idle (s : State) : State :=
  if s.power.on then
    match dueEvent s with
    | some i => { s with pending := [i] }
    | none => advanceTo (s.now + 1) s
  else s

end Sys2Proof.Machine
end

