-- ==== Sys2Proof/Machine/TimeEvents.lean ====
section
/-! DEFINITION. The meanings of the commands, one each: the events of the pulse inputs and of the time base. -/

namespace Sys2Proof.Machine

/-- EDGE_EVENT (R1 to R9, R17, R199); the input's level moves without supply as well (entry 41). -/
def execEdgeEvent (l : LineId) (e : PulserEdge) (t : Micros) (s : State) : Host.Outcome State Fault Refusal :=
  .next (timedEvent t (takeEdge l e) (setLevel l e s))

/-- PERIOD_TIMER_OVERFLOW (R6). -/
def execPeriodTimerOverflow (l : LineId) (t : Micros) (s : State) : Host.Outcome State Fault Refusal :=
  .next (timedEvent t (takeOverflow l) s)

/-- METERING_TICK (R20). -/
def execMeteringTick (l : LineId) (t : Micros) (s : State) : Host.Outcome State Fault Refusal :=
  .next (timedEvent t (takeTick l) s)

/-- TEMPERATURE_AGE_EXPIRY: the age class follows from the age of the sample (R27), so the passing of time is the
whole effect; the loss of the temperature is tested at the ticks (R94). -/
def execTemperatureAgeExpiry (_l : LineId) (t : Micros) (s : State) : Host.Outcome State Fault Refusal :=
  .next (timedEvent t id s)

/-- NO_FLOW_TIMER_EXPIRY (R89). -/
def execNoFlowTimerExpiry (l : LineId) (t : Micros) (s : State) : Host.Outcome State Fault Refusal :=
  .next (timedEvent t (takeNoFlowExpiry l) s)

/-- AIR_CLEAR_TIMER_EXPIRY (R91). -/
def execAirClearTimerExpiry (l : LineId) (t : Micros) (s : State) : Host.Outcome State Fault Refusal :=
  .next (timedEvent t (takeAirClearExpiry l) s)

/-- AIR_HOLD_TIMER_EXPIRY (R92). -/
def execAirHoldTimerExpiry (l : LineId) (t : Micros) (s : State) : Host.Outcome State Fault Refusal :=
  .next (timedEvent t (takeAirHoldExpiry l) s)

/-- AIR_SILENCE_EXPIRY (R93). -/
def execAirSilenceExpiry (l : LineId) (t : Micros) (s : State) : Host.Outcome State Fault Refusal :=
  .next (timedEvent t (takeAirSilenceExpiry l) s)

/-- REPORT_TIMER_EXPIRY (R186). -/
def execReportTimerExpiry (l : LineId) (t : Micros) (s : State) : Host.Outcome State Fault Refusal :=
  .next (timedEvent t (takeReportExpiry l) s)

/-- RELOCK_TIMER_EXPIRY (R154). -/
def execRelockTimerExpiry (t : Micros) (s : State) : Host.Outcome State Fault Refusal :=
  .next (timedEvent t takeRelockExpiry s)

/-- CONFIRMATION_TIMER_EXPIRY (R106, R109). -/
def execConfirmationTimerExpiry (l : LineId) (t : Micros) (s : State) : Host.Outcome State Fault Refusal :=
  .next (timedEvent t (takeConfirmExpiry l) s)

/-- RETRY_TIMER_EXPIRY (R110). -/
def execRetryTimerExpiry (l : LineId) (t : Micros) (s : State) : Host.Outcome State Fault Refusal :=
  .next (timedEvent t (takeRetryExpiry l) s)

/-- WAKE_DELAY_END (R199). -/
def execWakeDelayEnd (t : Micros) (s : State) : Host.Outcome State Fault Refusal :=
  .next (timedEvent t takeWakeDelayEnd s)

end Sys2Proof.Machine
end

