-- ==== Sys2Proof/Machine/LinkEvents.lean ====
section
/-! DEFINITION. The meanings of the commands, one each: the events of the links, the journal store and the supply. -/

namespace Sys2Proof.Machine

/-- FIELD_FRAME_ARRIVAL (R160, R163, R164, R175). -/
def execFieldFrameArrival (f : Frame) (s : State) : Host.Outcome State Fault Refusal :=
  .next (event (takeFieldFrame f) s)

/-- CAB_FRAME_ARRIVAL (R160 to R162, R175, R178, R195, R199). -/
def execCabFrameArrival (f : Frame) (s : State) : Host.Outcome State Fault Refusal :=
  .next (event (receiveCab (handleCabFrame f)) s)

/-- FIELD_PORT_TAKE (R171). -/
def execFieldPortTake (s : State) : Host.Outcome State Fault Refusal :=
  .next (event takeFieldPort s)

/-- CAB_PORT_TAKE (R172). -/
def execCabPortTake (s : State) : Host.Outcome State Fault Refusal :=
  .next (event takeCabPort s)

/-- TRANSMISSION_COMPLETION (R171, R173, R198, R200). -/
def execTransmissionCompletion (k : Link) (s : State) : Host.Outcome State Fault Refusal :=
  .next (event (takeTransmission k) s)

/-- BUS_OFF (R174). -/
def execBusOff (k : Link) (s : State) : Host.Outcome State Fault Refusal :=
  .next (event (enterBusOff k) s)

/-- BUS_OFF_RECOVERY (R174; the port takes its next frame by its own event, entry 25). -/
def execBusOffRecovery (k : Link) (s : State) : Host.Outcome State Fault Refusal :=
  .next (event (recoverBusOff k) s)

/-- WRITE_COMPLETION (R127, R148, R195). -/
def execWriteCompletion (s : State) : Host.Outcome State Fault Refusal :=
  .next (event takeWriteCompletion s)

/-- POWER_FAIL (R194); the input is held without supply as well, for R196 step 8. -/
def execPowerFail (s : State) : Host.Outcome State Fault Refusal :=
  .next (event takePowerFail (setFailPin true s))

/-- POWER_FAIL_RELEASE (R195). -/
def execPowerFailRelease (s : State) : Host.Outcome State Fault Refusal :=
  .next (event takeRelease (setFailPin false s))

/-- SUPPLY_FAILURE (R195; entries 7 and 8). -/
def execSupplyFailure (betweenStores : Bool) (s : State) : Host.Outcome State Fault Refusal :=
  .next (loseSupply betweenStores s)

/-- POWER_ON (R196; a part that has supply loses it and gets it back, entry 7). -/
def execPowerOn (s : State) : Host.Outcome State Fault Refusal :=
  .next (settle s (runPowerOn false s))

/-- STORAGE_MEDIUM_FAILURE (R128); it reaches the store with or without supply. -/
def execStorageMediumFailure (sequence : Nat) (contents : StoredContents) (s : State) :
    Host.Outcome State Fault Refusal :=
  .next (damageJournal sequence contents s)

end Sys2Proof.Machine
end

