-- ==== Sys2Proof/Machine/DeliveryCommands.lean ====
section
/-! DEFINITION. The meanings of the commands, one each: the command frames of the lines, orders, compartments and products. -/

namespace Sys2Proof.Machine

/-- ARM command frame (R72). -/
def execArm (tag line order compartment : Nat) (s : State) : Host.Outcome State Fault Refusal :=
  .next (takeCommand tag (.arm line order compartment) s)

/-- ARM FLUSH command frame (R73). -/
def execArmFlush (tag line compartment : Nat) (s : State) : Host.Outcome State Fault Refusal :=
  .next (takeCommand tag (.armFlush line compartment) s)

/-- DISARM command frame (R74). -/
def execDisarm (tag line : Nat) (s : State) : Host.Outcome State Fault Refusal :=
  .next (takeCommand tag (.disarm line) s)

/-- START command frame (R75). -/
def execStart (tag line : Nat) (s : State) : Host.Outcome State Fault Refusal :=
  .next (takeCommand tag (.start line) s)

/-- RESUME command frame (R76). -/
def execResume (tag line : Nat) (s : State) : Host.Outcome State Fault Refusal :=
  .next (takeCommand tag (.resume line) s)

/-- PAUSE command frame (R77). -/
def execPause (tag line : Nat) (s : State) : Host.Outcome State Fault Refusal :=
  .next (takeCommand tag (.pause line) s)

/-- STOP command frame (R78). -/
def execStop (tag line : Nat) (s : State) : Host.Outcome State Fault Refusal :=
  .next (takeCommand tag (.stop line) s)

/-- EMERGENCY STOP command frame (R79). -/
def execEmergencyStop (tag : Nat) (s : State) : Host.Outcome State Fault Refusal :=
  .next (takeCommand tag .emergencyStop s)

/-- END command frame (R80). -/
def execEndDelivery (tag line : Nat) (s : State) : Host.Outcome State Fault Refusal :=
  .next (takeCommand tag (.endDelivery line) s)

/-- READ LINE STATUS command frame (R81). -/
def execReadLineStatus (tag line : Nat) (s : State) : Host.Outcome State Fault Refusal :=
  .next (takeCommand tag (.readLineStatus line) s)

/-- READ TOTALIZERS command frame (R33). -/
def execReadTotalizers (tag line : Nat) (s : State) : Host.Outcome State Fault Refusal :=
  .next (takeCommand tag (.readTotalizers line) s)

/-- LOAD ORDER command frame (R59). -/
def execLoadOrder (tag order product : Nat) (preset : Int) (price customer : Nat) (s : State) : Host.Outcome State Fault Refusal :=
  .next (takeCommand tag (.loadOrder order product preset price customer) s)

/-- REMOVE ORDER command frame (R61). -/
def execRemoveOrder (tag order : Nat) (s : State) : Host.Outcome State Fault Refusal :=
  .next (takeCommand tag (.removeOrder order) s)

/-- READ ORDER command frame (R60). -/
def execReadOrder (tag position : Nat) (s : State) : Host.Outcome State Fault Refusal :=
  .next (takeCommand tag (.readOrder position) s)

/-- LOAD COMPARTMENT command frame (R44). -/
def execLoadCompartment (tag compartment product : Nat) (volume reserve : Int) (s : State) : Host.Outcome State Fault Refusal :=
  .next (takeCommand tag (.loadCompartment compartment product volume reserve) s)

/-- READ COMPARTMENT command frame (R45). -/
def execReadCompartment (tag compartment : Nat) (s : State) : Host.Outcome State Fault Refusal :=
  .next (takeCommand tag (.readCompartment compartment) s)

/-- READ PRODUCT command frame (R42). -/
def execReadProduct (tag product : Nat) (s : State) : Host.Outcome State Fault Refusal :=
  .next (takeCommand tag (.readProduct product) s)

end Sys2Proof.Machine
end

