-- ==== Sys2Proof/Machine/RecordCommands.lean ====
section
/-! DEFINITION. The meanings of the commands, one each: the command frames of the journal, the calibration set and the lock. -/

namespace Sys2Proof.Machine

/-- READ RECORD command frame (R129). -/
def execReadRecord (tag sequence : Nat) (s : State) : Host.Outcome State Fault Refusal :=
  .next (takeCommand tag (.readRecord sequence) s)

/-- RELEASE THROUGH command frame (R131). -/
def execReleaseThrough (tag sequence : Nat) (s : State) : Host.Outcome State Fault Refusal :=
  .next (takeCommand tag (.releaseThrough sequence) s)

/-- READ JOURNAL STATE command frame (R132). -/
def execReadJournalState (tag : Nat) (s : State) : Host.Outcome State Fault Refusal :=
  .next (takeCommand tag .readJournalState s)

/-- READ CALIBRATION IDENTITY command frame (R143). -/
def execReadCalibrationIdentity (tag : Nat) (s : State) : Host.Outcome State Fault Refusal :=
  .next (takeCommand tag .readCalibrationIdentity s)

/-- READ CALIBRATION ITEM command frame (R144). -/
def execReadCalibrationItem (tag scope kind band : Nat) (s : State) : Host.Outcome State Fault Refusal :=
  .next (takeCommand tag (.readCalibrationItem scope kind band) s)

/-- WRITE CALIBRATION ITEM command frame (R145, R146). -/
def execWriteCalibrationItem (tag quoted scope kind band : Nat) (value : BitVec 64) (s : State) : Host.Outcome State Fault Refusal :=
  .next (takeCommand tag (.writeCalibrationItem quoted scope kind band value) s)

/-- UNLOCK command frame (R152). -/
def execUnlock (tag kind : Nat) (credential : BitVec 128) (s : State) : Host.Outcome State Fault Refusal :=
  .next (takeCommand tag (.unlock kind credential) s)

/-- LOCK command frame (R155). -/
def execLock (tag : Nat) (s : State) : Host.Outcome State Fault Refusal :=
  .next (takeCommand tag .lock s)

/-- SET CREDENTIAL command frame (R156). -/
def execSetCredential (tag kind : Nat) (credential : BitVec 128) (level : Nat) (s : State) : Host.Outcome State Fault Refusal :=
  .next (takeCommand tag (.setCredential kind credential level) s)

/-- REMOVE LOCK command frame (R157). -/
def execRemoveLock (tag : Nat) (s : State) : Host.Outcome State Fault Refusal :=
  .next (takeCommand tag .removeLock s)

/-- FREEZE command frame (R158). -/
def execFreeze (tag : Nat) (s : State) : Host.Outcome State Fault Refusal :=
  .next (takeCommand tag .freeze s)

end Sys2Proof.Machine
end

