-- ==== Sys2Proof/Machine/DeviceCommands.lean ====
section
/-! DEFINITION. The meanings of the commands, one each: the command frames of forwarding, settings, clock, conditions, park and restart. -/

namespace Sys2Proof.Machine

/-- WRITE PASS ENTRY command frame (R166). -/
def execWritePassEntry (tag index direction matchValue mask action gate persist : Nat) (s : State) : Host.Outcome State Fault Refusal :=
  .next (takeCommand tag (.writePassEntry index direction matchValue mask action gate persist) s)

/-- DELETE PASS ENTRY command frame (R167). -/
def execDeletePassEntry (tag index : Nat) (s : State) : Host.Outcome State Fault Refusal :=
  .next (takeCommand tag (.deletePassEntry index) s)

/-- READ PASS ENTRY command frame (R167). -/
def execReadPassEntry (tag index : Nat) (s : State) : Host.Outcome State Fault Refusal :=
  .next (takeCommand tag (.readPassEntry index) s)

/-- READ FORWARDING COUNTERS command frame (R173). -/
def execReadForwardingCounters (tag : Nat) (s : State) : Host.Outcome State Fault Refusal :=
  .next (takeCommand tag .readForwardingCounters s)

/-- CLEAR FORWARDING COUNTERS command frame (R173). -/
def execClearForwardingCounters (tag : Nat) (s : State) : Host.Outcome State Fault Refusal :=
  .next (takeCommand tag .clearForwardingCounters s)

/-- SET TIME command frame (R185). -/
def execSetTime (tag time : Nat) (s : State) : Host.Outcome State Fault Refusal :=
  .next (takeCommand tag (.setTime time) s)

/-- WRITE SETTING command frame (R182). -/
def execWriteSetting (tag setting line : Nat) (value : Int) (persist : Nat) (s : State) : Host.Outcome State Fault Refusal :=
  .next (takeCommand tag (.writeSetting setting line value persist) s)

/-- READ SETTING command frame (R182). -/
def execReadSetting (tag setting line : Nat) (s : State) : Host.Outcome State Fault Refusal :=
  .next (takeCommand tag (.readSetting setting line) s)

/-- RESTORE DEFAULTS command frame (R184). -/
def execRestoreDefaults (tag : Nat) (s : State) : Host.Outcome State Fault Refusal :=
  .next (takeCommand tag .restoreDefaults s)

/-- READ DEVICE STATUS command frame (R189). -/
def execReadDeviceStatus (tag : Nat) (s : State) : Host.Outcome State Fault Refusal :=
  .next (takeCommand tag .readDeviceStatus s)

/-- CLEAR CONDITION command frame (R190). -/
def execClearCondition (tag rank : Nat) (s : State) : Host.Outcome State Fault Refusal :=
  .next (takeCommand tag (.clearCondition rank) s)

/-- PARK command frame (R198). -/
def execPark (tag : Nat) (s : State) : Host.Outcome State Fault Refusal :=
  .next (takeCommand tag .park s)

/-- RESTART command frame (R200). -/
def execRestart (tag : Nat) (s : State) : Host.Outcome State Fault Refusal :=
  .next (takeCommand tag .restart s)

end Sys2Proof.Machine
end

