-- ==== Sys2Proof/Machine/Dispatch.lean ====
section
/-! DEFINITION. The dispatch of the commands to their meanings. -/

namespace Sys2Proof.Machine

/-- The effect of a command on everything but the queue. -/
def exec (i : Instr) (s : State) : Host.Outcome State Fault Refusal :=
  match i with
  | .edgeEvent l e t => Sys2Proof.Machine.execEdgeEvent l e t s
  | .periodTimerOverflow l t => Sys2Proof.Machine.execPeriodTimerOverflow l t s
  | .meteringTick l t => Sys2Proof.Machine.execMeteringTick l t s
  | .temperatureAgeExpiry l t => Sys2Proof.Machine.execTemperatureAgeExpiry l t s
  | .noFlowTimerExpiry l t => Sys2Proof.Machine.execNoFlowTimerExpiry l t s
  | .airClearTimerExpiry l t => Sys2Proof.Machine.execAirClearTimerExpiry l t s
  | .airHoldTimerExpiry l t => Sys2Proof.Machine.execAirHoldTimerExpiry l t s
  | .airSilenceExpiry l t => Sys2Proof.Machine.execAirSilenceExpiry l t s
  | .reportTimerExpiry l t => Sys2Proof.Machine.execReportTimerExpiry l t s
  | .relockTimerExpiry t => Sys2Proof.Machine.execRelockTimerExpiry t s
  | .confirmationTimerExpiry l t => Sys2Proof.Machine.execConfirmationTimerExpiry l t s
  | .retryTimerExpiry l t => Sys2Proof.Machine.execRetryTimerExpiry l t s
  | .fieldFrameArrival f => Sys2Proof.Machine.execFieldFrameArrival f s
  | .cabFrameArrival f => Sys2Proof.Machine.execCabFrameArrival f s
  | .fieldPortTake => Sys2Proof.Machine.execFieldPortTake s
  | .cabPortTake => Sys2Proof.Machine.execCabPortTake s
  | .transmissionCompletion k => Sys2Proof.Machine.execTransmissionCompletion k s
  | .busOff k => Sys2Proof.Machine.execBusOff k s
  | .busOffRecovery k => Sys2Proof.Machine.execBusOffRecovery k s
  | .wakeDelayEnd t => Sys2Proof.Machine.execWakeDelayEnd t s
  | .writeCompletion => Sys2Proof.Machine.execWriteCompletion s
  | .powerFail => Sys2Proof.Machine.execPowerFail s
  | .powerFailRelease => Sys2Proof.Machine.execPowerFailRelease s
  | .supplyFailure betweenStores => Sys2Proof.Machine.execSupplyFailure betweenStores s
  | .powerOn => Sys2Proof.Machine.execPowerOn s
  | .arm tag line order compartment => Sys2Proof.Machine.execArm tag line order compartment s
  | .armFlush tag line compartment => Sys2Proof.Machine.execArmFlush tag line compartment s
  | .disarm tag line => Sys2Proof.Machine.execDisarm tag line s
  | .start tag line => Sys2Proof.Machine.execStart tag line s
  | .resume tag line => Sys2Proof.Machine.execResume tag line s
  | .pause tag line => Sys2Proof.Machine.execPause tag line s
  | .stop tag line => Sys2Proof.Machine.execStop tag line s
  | .emergencyStop tag => Sys2Proof.Machine.execEmergencyStop tag s
  | .endDelivery tag line => Sys2Proof.Machine.execEndDelivery tag line s
  | .readLineStatus tag line => Sys2Proof.Machine.execReadLineStatus tag line s
  | .readTotalizers tag line => Sys2Proof.Machine.execReadTotalizers tag line s
  | .loadOrder tag order product preset price customer => Sys2Proof.Machine.execLoadOrder tag order product preset price customer s
  | .removeOrder tag order => Sys2Proof.Machine.execRemoveOrder tag order s
  | .readOrder tag position => Sys2Proof.Machine.execReadOrder tag position s
  | .loadCompartment tag compartment product volume reserve => Sys2Proof.Machine.execLoadCompartment tag compartment product volume reserve s
  | .readCompartment tag compartment => Sys2Proof.Machine.execReadCompartment tag compartment s
  | .readProduct tag product => Sys2Proof.Machine.execReadProduct tag product s
  | .readRecord tag sequence => Sys2Proof.Machine.execReadRecord tag sequence s
  | .releaseThrough tag sequence => Sys2Proof.Machine.execReleaseThrough tag sequence s
  | .readJournalState tag => Sys2Proof.Machine.execReadJournalState tag s
  | .readCalibrationIdentity tag => Sys2Proof.Machine.execReadCalibrationIdentity tag s
  | .readCalibrationItem tag scope kind band => Sys2Proof.Machine.execReadCalibrationItem tag scope kind band s
  | .writeCalibrationItem tag quoted scope kind band value => Sys2Proof.Machine.execWriteCalibrationItem tag quoted scope kind band value s
  | .unlock tag kind credential => Sys2Proof.Machine.execUnlock tag kind credential s
  | .lock tag => Sys2Proof.Machine.execLock tag s
  | .setCredential tag kind credential level => Sys2Proof.Machine.execSetCredential tag kind credential level s
  | .removeLock tag => Sys2Proof.Machine.execRemoveLock tag s
  | .freeze tag => Sys2Proof.Machine.execFreeze tag s
  | .writePassEntry tag index direction matchValue mask action gate persist => Sys2Proof.Machine.execWritePassEntry tag index direction matchValue mask action gate persist s
  | .deletePassEntry tag index => Sys2Proof.Machine.execDeletePassEntry tag index s
  | .readPassEntry tag index => Sys2Proof.Machine.execReadPassEntry tag index s
  | .readForwardingCounters tag => Sys2Proof.Machine.execReadForwardingCounters tag s
  | .clearForwardingCounters tag => Sys2Proof.Machine.execClearForwardingCounters tag s
  | .setTime tag time => Sys2Proof.Machine.execSetTime tag time s
  | .writeSetting tag setting line value persist => Sys2Proof.Machine.execWriteSetting tag setting line value persist s
  | .readSetting tag setting line => Sys2Proof.Machine.execReadSetting tag setting line s
  | .restoreDefaults tag => Sys2Proof.Machine.execRestoreDefaults tag s
  | .readDeviceStatus tag => Sys2Proof.Machine.execReadDeviceStatus tag s
  | .clearCondition tag rank => Sys2Proof.Machine.execClearCondition tag rank s
  | .park tag => Sys2Proof.Machine.execPark tag s
  | .restart tag => Sys2Proof.Machine.execRestart tag s
  | .storageMediumFailure sequence contents => Sys2Proof.Machine.execStorageMediumFailure sequence contents s

end Sys2Proof.Machine
end

