-- ==== Sys2Proof/Safety.lean ====
section
/-! DEFINITION. The terms in which claims speak: when the cab link and the command port take a command, the state with
a response placed, and the laws of the part that hold along every run. -/

namespace Sys2Proof.Machine

/-! ### When a command frame reaches the port (R160, R195, R199) -/

/-- The part handles cab-link frames as in normal service: supplied, link not bus-off, not parked, not in the wake
delay, not in holdup. -/
structure CabOpen (s : State) : Prop where
  supplied : s.power.on = true
  link : s.forward.cabOff = false
  notParked : s.power.parked = false
  notWaking : s.power.wakeDelay = none
  notHoldup : s.power.holdup = false

/-- The command port hands a command to its owner: no command in flight, no PARK or RESTART pending, room for one
answer (R178). -/
structure PortReady (s : State) : Prop extends CabOpen s where
  noneInFlight : s.port.inFlight = none
  nonePending : s.port.pendingReset = none
  room : s.port.responses.length < 4

/-- The part is supplied and not parked: the timers of the lines and valves run. -/
structure Running (s : State) : Prop where
  supplied : s.power.on = true
  notParked : s.power.parked = false

/-- The state with one response placed and remembered (R178, R179). -/
def replied (code tag : Nat) (st : Status) (data : List Byte) (s : State) : State :=
  { s with port := { s.port with
      responses := s.port.responses ++
        [{ frame := responseFrame s.port.address code tag st data, performs := performsOf code st }]
      previous := some { code := code, status := .answered st } } }

/-- The state with an accepted calibration-class command in flight (R146, R178). -/
def inFlightOf (code tag : Nat) (s : State) : State :=
  { s with port := { s.port with
      inFlight := some { code := code, tag := tag }
      previous := some { code := code, status := .inFlight } } }

/-! ### Laws of the part -/

/-- The line context store equals the line contexts (R193). -/
def StoreAgrees (s : State) : Prop := s.store = copies s

/-- The law of R70 and R103: the newest command issued to a valve, sent or pending, is an open one only while its
line is FLOWING or SLOWDOWN. -/
def ValveLaw (s : State) : Prop :=
  ∀ l : LineId,
    ((s.valve.get l).commanded ≠ .close → (s.lineState l).flows = true) ∧
      (∀ st, (s.valve.get l).slot = some st → st = (s.valve.get l).commanded) ∧
      ((s.valve.get l).escalated = true → (s.valve.get l).commanded = .close)

/-- What a line holds by its state (R68, R69, R89 to R92, R186): a delivery context outside IDLE, a resume state in
AIR_HOLD, the no-flow timer in FLOWING or SLOWDOWN alone, the air-hold timer in AIR_HOLD alone, the report timer outside
IDLE. -/
def ContextLaw (s : State) : Prop :=
  StoreAgrees s ∧
    ∀ l : LineId,
      (s.ctx l = none ↔ s.lineState l = .idle) ∧
        ((s.line.get l).resume = none ↔ s.lineState l ≠ .airHold) ∧
        ((s.line.get l).noFlow ≠ none → (s.lineState l).flows = true) ∧
        ((s.line.get l).airHold ≠ none → s.lineState l = .airHold) ∧
        ((s.line.get l).report = none ↔ s.lineState l = .idle)

/-- The law of R46: a compartment is granted to the line whose delivery context names it, and to no other. -/
def GrantLaw (s : State) : Prop :=
  ContextLaw s ∧
    ∀ (c : CompartmentNo) (l : LineId),
      s.compartments[c].granted = some l ↔ ∃ d, s.ctx l = some d ∧ d.compartment = c

/-- The law of R23 and R31: the remainders lie below one unit of the K-factor, and are 0 without one. -/
def RemainderLaw (s : State) : Prop :=
  StoreAgrees s ∧
    ∀ l : LineId,
      (0 < (s.cal.lines.get l).k →
          0 ≤ (s.line.get l).kept.grossRem ∧
            (s.line.get l).kept.grossRem < (s.cal.lines.get l).k * 1000000 ∧
            0 ≤ (s.line.get l).kept.netRem ∧
            (s.line.get l).kept.netRem < (s.cal.lines.get l).k * 1000000000000) ∧
        ((s.cal.lines.get l).k = 0 → (s.line.get l).kept.grossRem = 0 ∧ (s.line.get l).kept.netRem = 0)

/-- The laws of a line's calibration items (R22, R138, R140): ranges, and a band table whose entry 0 has bound 0 and whose
bounds rise. -/
def LineCalibration.lawful (c : LineCalibration) : Prop :=
  (c.k = 0 ∨ (10 ≤ c.k ∧ c.k ≤ 2000)) ∧ (1 ≤ c.bands.length ∧ c.bands.length ≤ 6) ∧
    (∀ b, c.bands.head? = some b → b.lower = 0) ∧ c.bands.Pairwise (fun a b => a.lower < b.lower) ∧
    (∀ b ∈ c.bands, b.lower ≤ 65535 ∧ -50000 ≤ b.correction ∧ b.correction ≤ 50000) ∧
    (1 ≤ c.integrityLimit ∧ c.integrityLimit ≤ 64) ∧ c.reverseLimit ≤ 5000 ∧ c.hoseVolume ≤ 200000

/-- The laws of a product record (R40). -/
def Product.lawful (p : Product) : Prop :=
  p.alpha ≤ 2000 ∧ p.beta ≤ 5000 ∧ (-1000 ≤ p.tref ∧ p.tref ≤ 3000)

/-- The laws of the calibration set (R22, R40, R138 to R140): every item in its range, and the nine identifiers
distinct 29-bit values outside the range of the part's own block. -/
def Calibration.lawful (c : Calibration) : Prop :=
  c.lines.line1.lawful ∧ c.lines.line2.lawful ∧ (∀ i : ProductNo, c.products[i].lawful) ∧
    (protectedSet c).Nodup ∧
    (∀ n ∈ protectedSet c, n ≤ 0x1FFFFFFF ∧ ¬(0x0B3C0000 ≤ n ∧ n ≤ 0x0B3C03FF))

/-- A line's settings lie in their ranges (R182). -/
def LineSettings.inRange (x : LineSettings) : Prop :=
  (10 ≤ x.noFlow ∧ x.noFlow ≤ 600) ∧ (0 ≤ x.softStart ∧ x.softStart ≤ 20000) ∧
    (0 ≤ x.slowdown ∧ x.slowdown ≤ 100000) ∧ (0 ≤ x.closeAhead ∧ x.closeAhead ≤ 5000)

/-- Every setting lies in its range (R182). -/
def Settings.inRange (x : Settings) : Prop :=
  x.address ≤ 63 ∧ (100 ≤ x.reportInterval ∧ x.reportInterval ≤ 5000) ∧ (10 ≤ x.airHold ∧ x.airHold ≤ 600) ∧
    x.lines.line1.inRange ∧ x.lines.line2.inRange

/-- The settings in effect, the stored settings and the address in effect lie in their ranges (R88, R177, R182). -/
def SettingsLaw (s : State) : Prop :=
  s.settings.inRange ∧ s.storedSettings.inRange ∧ s.port.address ≤ 63

/-- A direction's counters fit 16 bits (R173). -/
def Counters.fit (c : Counters) : Prop :=
  c.forwarded ≤ 65535 ∧ c.fullDrop ≤ 65535 ∧ c.tableDrop ≤ 65535 ∧ c.gatedDrop ≤ 65535 ∧ c.protectedDrop ≤ 65535

/-- A pulse input's counts and flow rate fit 16 bits (spec/01, table 1.1). -/
def PulseInput.fit (p : PulseInput) : Prop :=
  p.forward ≤ 65535 ∧ p.reverse ≤ 65535 ∧ p.errors ≤ 65535 ∧ p.flow ≤ 65535

/-- Queues and counters stay in their bounds: forward FIFOs (R170), response slot with its kept place (R180), order
queue (R57), attempts (R153), counters (R3, R5, R26, R173). -/
def BoundsLaw (s : State) : Prop :=
  s.forward.toField.length ≤ 32 ∧ s.forward.toCab.length ≤ 32 ∧
    s.port.responses.length + (if s.port.inFlight.isSome then 1 else 0) ≤ 4 ∧
    s.orders.length ≤ 16 ∧ s.lock.attempts ≤ 5 ∧
    s.forward.countToField.fit ∧ s.forward.countToCab.fit ∧
    s.pulse.line1.fit ∧ s.pulse.line2.fit ∧
    s.line.line1.probeErrors ≤ 65535 ∧ s.line.line2.probeErrors ≤ 65535

/-- The reservations that a holder has. -/
def heldBy (j : Journal) (h : Holder) : List Reservation := j.reservations.filter fun r => decide (r.holder = h)

/-- The writes that a holder has in the queue. -/
def writesOf (j : Journal) (h : Holder) : List JournalWrite := j.queue.filter fun w => decide (w.holder = h)

/-- The law of R117 with what keeps it (R119, R125, R126): at most 1,024 places in use, one reservation for each line
outside IDLE and none for a line in IDLE, one queued write for each line in CLOSING, with its number in the reservation,
and none for another; at most one calibration reservation, with one queued write, while the part has a command in
flight; a calibration write holds a calibration record, and a line's write a delivery record. -/
def JournalLaw (s : State) : Prop :=
  ContextLaw s ∧
    s.journal.records.length + s.journal.reservations.length ≤ 1024 ∧
    (∀ l : LineId,
      (heldBy s.journal (.line l)).length = (if s.lineState l = .idle then 0 else 1) ∧
        (writesOf s.journal (.line l)).length = (if s.lineState l = .closing then 1 else 0) ∧
        (∀ r ∈ heldBy s.journal (.line l), r.sequence.isSome = true ↔ s.lineState l = .closing)) ∧
    (heldBy s.journal .calibration).length ≤ 1 ∧
    (writesOf s.journal .calibration).length = (heldBy s.journal .calibration).length ∧
    (s.power.on = true → ((heldBy s.journal .calibration).length = 1 ↔ s.port.inFlight.isSome = true)) ∧
    (∀ w ∈ s.journal.queue, w.holder = .calibration ↔ ∃ c, w.contents = .calibration c)

/-- What keeps the law of R135 and R142: a queued calibration write bears the event count plus 1. -/
def EventCountLaw (s : State) : Prop :=
  JournalLaw s ∧ ∀ w ∈ s.journal.queue, ∀ c, w.contents = .calibration c → c.newCount = s.cal.eventCount + 1

/-- The law of R135 and R142 on the records: no intact CALIBRATION record bears more than the event count plus 1. -/
def RecordCountLaw (s : State) : Prop :=
  EventCountLaw s ∧
    ∀ r ∈ s.journal.records, r.kind = .calibration → r.intact = true → ∀ c, calibrationOf r.contents = some c →
      c.newCount ≤ s.cal.eventCount + 1

/-- The command at the front of the queue is no failure of the storage medium that the check value would not find
(R128). -/
def DamageIsFound (s : State) : Prop :=
  ∀ n left rest, s.pending = .storageMediumFailure n left :: rest →
    ∀ r ∈ s.journal.records, r.sequence = n → 
      left.check ≠ Config.checkValue n r.kind (storedBytes r.kind (.changed left.fields))

end Sys2Proof.Machine
end

