-- ==== Sys2Proof/Certificates/Slice0/Obligations.lean ====
section
/-! DEFINITION. The statements for the provers. Each docstring names the rules of spec/ that the statement formalises,
and the log entries (notes/assumptions) that it rests on where it rests on a choice of the model. -/

open Sys2Proof Sys2Proof.Machine

/-! ### The machine -/

/-- A step runs the command at the front of the queue on the state with the queue's rest (entry 2). -/
def Obligations.StepRunsFrontCommand : Prop :=
  ∀ (c : Instr) (rest : List Instr) (s : State),
    step { s with pending := c :: rest } = exec c { s with pending := rest }

/-- No command changes the queue (entry 2). -/
def Obligations.ExecLeavesQueue : Prop :=
  ∀ (c : Instr) (s t : State), exec c s = .next t → t.pending = s.pending

/-- R188, R121 and R189: the condition set follows its causes, each condition's bit is its rank - 1, the principal
condition is the active one of the least rank number, and the device status frame carries both with the clock's count.
R193 and R189: after every command but a loss of supply, the line context store equals the line contexts, and a change of
the condition set has raised the device status request. That the tickets promised to open deliveries are the DELIVERY
reservations with no sequence number is read from R123 (entry 31, DEDUCED); the identifier of the frame is that of R177,
and the places of its fields and of the bits those of R192. What the end of an event does is given as an equation. -/
def Obligations.EventStoresContextsAndReports : Prop :=
  (∀ before after : State,
    let stored := { after with store := { line1 := after.line.line1.kept, line2 := after.line.line2.kept } }
    copies after = stored.store ∧
      (conditions after = conditions before → settle before after = stored) ∧
      (conditions after ≠ conditions before →
        settle before after = { stored with reports := { after.reports with device := true } })) ∧
  (∀ (c : Instr) (s t : State), StoreAgrees s → (∀ b, c ≠ .supplyFailure b) → exec c s = .next t →
    t.store = copies t ∧ (conditions t ≠ conditions s → t.reports.device = true)) ∧
  (∀ s : State,
    let c := conditions s
    let j := s.journal
    let promised := (j.reservations.filter fun r => r.sequence = none).length
    let tickets := (j.reservations.filter fun r => r.kind = .delivery ∧ r.sequence = none).length
    let byRank := [c.holdup, c.valveFault, c.journalFull, c.journalDamage, c.lockout, c.linkFault, c.clockUnset,
      c.unattendedFlow]
    ((c.holdup = true ↔ s.power.holdup = true) ∧
      (c.valveFault = true ↔
        ∃ l d, s.lineState l = .suspended ∧ s.ctx l = some d ∧ faultIn d.faults .valveFault = true) ∧
      (c.journalFull = true ↔
        (1024 ≤ j.records.length + j.reservations.length ∧ ∀ r ∈ j.records, r.released = false) ∨
          4294967295 < j.newestSeq + promised + 1 ∨ 4294967295 < j.newestTicket + tickets + 1) ∧
      (c.journalDamage = true ↔ s.journalDamage = true) ∧
      (c.lockout = true ↔ s.lock.attempts = 0) ∧
      (c.linkFault = true ↔ s.forward.cabOff = true ∨ s.forward.fieldOff = true) ∧
      (c.clockUnset = true ↔ s.clock.isSet = false) ∧
      (c.unattendedFlow = true ↔ ∃ l, 1000 ≤ (s.line.get l).kept.unattended)) ∧
    (∀ n, c.bits.testBit n = byRank.getD n false) ∧
    (c.principal = 0 ↔ ∀ n, byRank.getD n false = false) ∧
    (∀ n, c.principal = n + 1 ↔ byRank.getD n false = true ∧ ∀ k, k < n → byRank.getD k false = false) ∧
    deviceStatusFrame s =
      { extended := true
        ident := 0x0B3C0000 + 16 * s.port.address + 4
        fd := true
        brs := true
        data := b1 c.bits ++ b1 c.principal ++ b4 (if s.clock.isSet then s.clock.count else 0) })

/-- The laws hold of the state after reset (R46, R70, R88, R117, R118, R135, R153, R170, R182, R193; the reset state is
the factory part after its first power-on, entry 1). -/
def Obligations.ResetKeepsTheLaws : Prop :=
  ValveLaw .reset ∧ GrantLaw .reset ∧ RemainderLaw .reset ∧ SettingsLaw .reset ∧ BoundsLaw .reset ∧
    RecordCountLaw .reset

/-! ### Command frames -/

/-- R178 and R192: the bytes of each command frame, little-endian in the widths of R192, and that the data of a command
frame, with any further bytes, reads back as its code, its tag and its command; and the bytes of the fields of 1, 2, 4 and
8 bytes, unsigned and signed. The loaded volume and the reserve of LOAD COMPARTMENT take 4 bytes, signed (entry 42), and
SET CREDENTIAL has its level byte for either credential (entry 27). That a yes/no field of a response is 1 for yes and 0
for no is the model's choice (entry 50). A signed value outside its field, with no stated clamp, shows a free value (entry
12). -/
def Obligations.CommandDecodesItsFrame : Prop :=
  let bytes := fun (w n : Nat) => (List.range w).map fun i => (BitVec.ofNat 8 (n / 256 ^ i) : Byte)
  let signed := fun (w : Nat) (x : Int) => bytes w (x % 256 ^ w).toNat
  (∀ n : Nat, b1 n = bytes 1 n ∧ b2 n = bytes 2 n ∧ b4 n = bytes 4 n ∧ b8 n = bytes 8 n) ∧
  (∀ b : Bool, yesNo b = [if b then 1 else 0]) ∧
  (∀ x : Int,
    s2 x = (if -32768 ≤ x ∧ x ≤ 32767 then signed 2 x else bytes 2 (Config.beyond16 x).toNat) ∧
      s4 x = (if -2147483648 ≤ x ∧ x ≤ 2147483647 then signed 4 x else bytes 4 (Config.beyond32 x).toNat) ∧
      s8 x = (if -9223372036854775808 ≤ x ∧ x ≤ 9223372036854775807 then signed 8 x
        else bytes 8 (Config.beyond64 x).toNat) ∧
      s4Clamped x = signed 4 (if x < -2147483648 then -2147483648 else if 2147483647 < x then 2147483647 else x)) ∧
  (∀ (c : Command) (tag : Nat),
    let frame := fun (code : Nat) (parameters : List Byte) =>
      c.code = code ∧ c.frameData tag = bytes 1 code ++ bytes 1 tag ++ parameters
    match c with
    | .arm line order compartment => frame 0x10 (bytes 1 line ++ bytes 4 order ++ bytes 1 compartment)
    | .armFlush line compartment => frame 0x11 (bytes 1 line ++ bytes 1 compartment)
    | .disarm line => frame 0x12 (bytes 1 line)
    | .start line => frame 0x13 (bytes 1 line)
    | .pause line => frame 0x14 (bytes 1 line)
    | .resume line => frame 0x15 (bytes 1 line)
    | .stop line => frame 0x16 (bytes 1 line)
    | .endDelivery line => frame 0x17 (bytes 1 line)
    | .emergencyStop => frame 0x18 []
    | .readLineStatus line => frame 0x19 (bytes 1 line)
    | .readTotalizers line => frame 0x1A (bytes 1 line)
    | .loadOrder order product preset price customer =>
      frame 0x20 (bytes 4 order ++ bytes 1 product ++ signed 4 preset ++ bytes 4 price ++ bytes 4 customer)
    | .removeOrder order => frame 0x21 (bytes 4 order)
    | .readOrder position => frame 0x22 (bytes 1 position)
    | .loadCompartment compartment product volume reserve =>
      frame 0x28 (bytes 1 compartment ++ bytes 1 product ++ signed 4 volume ++ signed 4 reserve)
    | .readCompartment compartment => frame 0x29 (bytes 1 compartment)
    | .readProduct product => frame 0x2A (bytes 1 product)
    | .readRecord sequence => frame 0x30 (bytes 4 sequence)
    | .releaseThrough sequence => frame 0x31 (bytes 4 sequence)
    | .readJournalState => frame 0x32 []
    | .readCalibrationIdentity => frame 0x40 []
    | .readCalibrationItem scope kind band => frame 0x41 (bytes 1 scope ++ bytes 1 kind ++ bytes 1 band)
    | .writeCalibrationItem quoted scope kind band value =>
      frame 0x42 (bytes 4 quoted ++ bytes 1 scope ++ bytes 1 kind ++ bytes 1 band ++ bytes 8 value.toNat)
    | .unlock kind credential => frame 0x43 (bytes 1 kind ++ bytes 16 credential.toNat)
    | .lock => frame 0x44 []
    | .setCredential kind credential level => frame 0x45 (bytes 1 kind ++ bytes 16 credential.toNat ++ bytes 1 level)
    | .removeLock => frame 0x46 []
    | .freeze => frame 0x47 []
    | .writePassEntry index direction matchValue mask action gate persist =>
      frame 0x50 (bytes 1 index ++ bytes 1 direction ++ bytes 4 matchValue ++ bytes 4 mask ++ bytes 1 action ++ bytes 1 gate
        ++ bytes 1 persist)
    | .deletePassEntry index => frame 0x51 (bytes 1 index)
    | .readPassEntry index => frame 0x52 (bytes 1 index)
    | .readForwardingCounters => frame 0x53 []
    | .clearForwardingCounters => frame 0x54 []
    | .setTime time => frame 0x60 (bytes 4 time)
    | .writeSetting setting line value persist =>
      frame 0x61 (bytes 1 setting ++ bytes 1 line ++ signed 4 value ++ bytes 1 persist)
    | .readSetting setting line => frame 0x62 (bytes 1 setting ++ bytes 1 line)
    | .restoreDefaults => frame 0x63 []
    | .readDeviceStatus => frame 0x64 []
    | .clearCondition rank => frame 0x65 (bytes 1 rank)
    | .park => frame 0x66 []
    | .restart => frame 0x67 []) ∧
  ∀ (c : Command) (tag : Nat) (extra : List Byte), c.wellFormed = true → tag < 256 →
    dataByte (c.frameData tag ++ extra) 0 = c.code ∧ dataByte (c.frameData tag ++ extra) 1 = tag ∧
      commandOfData (c.frameData tag ++ extra) = some c

/-- R161 and R178: a frame at the command identifier whose data spell a command acts as that command's row; the bytes
beyond its parameters are ignored. The rows are the model's typed form of the frames (entry 6). -/
def Obligations.CabFrameRunsItsCommand : Prop :=
  ∀ (tag : Nat) (c : Command) (f : Frame) (extra : List Byte) (s : State),
    let row : Instr := match c with
      | .arm line order compartment => .arm tag line order compartment
      | .armFlush line compartment => .armFlush tag line compartment
      | .disarm line => .disarm tag line
      | .start line => .start tag line
      | .resume line => .resume tag line
      | .pause line => .pause tag line
      | .stop line => .stop tag line
      | .emergencyStop => .emergencyStop tag
      | .endDelivery line => .endDelivery tag line
      | .readLineStatus line => .readLineStatus tag line
      | .readTotalizers line => .readTotalizers tag line
      | .loadOrder order product preset price customer => .loadOrder tag order product preset price customer
      | .removeOrder order => .removeOrder tag order
      | .readOrder position => .readOrder tag position
      | .loadCompartment compartment product volume reserve => .loadCompartment tag compartment product volume reserve
      | .readCompartment compartment => .readCompartment tag compartment
      | .readProduct product => .readProduct tag product
      | .readRecord sequence => .readRecord tag sequence
      | .releaseThrough sequence => .releaseThrough tag sequence
      | .readJournalState => .readJournalState tag
      | .readCalibrationIdentity => .readCalibrationIdentity tag
      | .readCalibrationItem scope kind band => .readCalibrationItem tag scope kind band
      | .writeCalibrationItem quoted scope kind band value => .writeCalibrationItem tag quoted scope kind band value
      | .unlock kind credential => .unlock tag kind credential
      | .lock => .lock tag
      | .setCredential kind credential level => .setCredential tag kind credential level
      | .removeLock => .removeLock tag
      | .freeze => .freeze tag
      | .writePassEntry index direction matchValue mask action gate persist =>
        .writePassEntry tag index direction matchValue mask action gate persist
      | .deletePassEntry index => .deletePassEntry tag index
      | .readPassEntry index => .readPassEntry tag index
      | .readForwardingCounters => .readForwardingCounters tag
      | .clearForwardingCounters => .clearForwardingCounters tag
      | .setTime time => .setTime tag time
      | .writeSetting setting line value persist => .writeSetting tag setting line value persist
      | .readSetting setting line => .readSetting tag setting line
      | .restoreDefaults => .restoreDefaults tag
      | .readDeviceStatus => .readDeviceStatus tag
      | .clearCondition rank => .clearCondition tag rank
      | .park => .park tag
      | .restart => .restart tag
    row.command? = some (tag, c) ∧
      (c.wellFormed = true → tag < 256 → f.extended = true → f.ident = 0x0B3C0000 + 16 * s.port.address →
        f.data = c.frameData tag ++ extra → exec (.cabFrameArrival f) s = exec row s)

/-- R178, steps 1 to 4: a discarded frame is recorded with no answer; then UNKNOWN, BUSY for a command in flight, BUSY for
a pending PARK or RESTART, PARAMETER for a short frame, by the codes of R192 and the bytes of parameters of its widths. Of
these, the 10 bytes of LOAD COMPARTMENT rest on a volume and a reserve of 4 bytes each (entry 42, DESIGN CHOICE), and the
18 of SET CREDENTIAL on a level byte for either credential (entry 27, DEDUCED). R177, R179, R192: the response frame, that
a placed response is this frame, and the status codes. That these answers carry no data, also to an UNLOCK or a WRITE
CALIBRATION ITEM, is the model's choice (R145, R152, R179; entry 48). -/
def Obligations.PortAnswersBeforeOwner : Prop :=
  ([Status.ok, .busy, .unknown, .parameter, .state, .notFound, .duplicate, .tableFull, .journalFull, .productMismatch,
    .hoseProduct, .compartmentBusy, .compartmentLow, .presetReached, .uncalibrated, .tempAbsent, .locked, .badCredential,
    .lockout, .level, .frozen, .stale, .wakePending].map Status.code = List.range 23) ∧
  (∀ (address code tag : Nat) (st : Status) (data : List Byte),
    let whole := b1 code ++ b1 tag ++ b1 st.code ++ data
    let n := whole.length
    let padded :=
      if n ≤ 8 then n else if n ≤ 12 then 12 else if n ≤ 16 then 16 else if n ≤ 20 then 20 else if n ≤ 24 then 24
      else if n ≤ 32 then 32 else if n ≤ 48 then 48 else 64
    responseFrame address code tag st data =
      { extended := true
        ident := 0x0B3C0000 + 16 * address + 1
        fd := true
        brs := true
        data := whole ++ List.replicate (padded - n) 0 }) ∧
  (∀ (code tag : Nat) (st : Status) (data : List Byte) (s : State),
    replied code tag st data s =
      { s with port := { s.port with
          responses := s.port.responses ++
            [{ frame := responseFrame s.port.address code tag st data, performs := performsOf code st }]
          previous := some { code := code, status := .answered st } } }) ∧
  ∀ (f : Frame) (s : State), CabOpen s → f.extended = true → f.ident = 0x0B3C0000 + 16 * s.port.address →
    let code := (f.data.getD 0 0).toNat
    let tag := (f.data.getD 1 0).toNat
    let free := 4 - s.port.responses.length - (if s.port.inFlight = none then 0 else 1)
    let layouts : List (Nat × Nat) :=
      [(0x10, 6), (0x11, 2), (0x12, 1), (0x13, 1), (0x14, 1), (0x15, 1), (0x16, 1), (0x17, 1), (0x18, 0), (0x19, 1),
       (0x1A, 1), (0x20, 17), (0x21, 4), (0x22, 1), (0x28, 10), (0x29, 1), (0x2A, 1), (0x30, 4), (0x31, 4), (0x32, 0),
       (0x40, 0), (0x41, 3), (0x42, 15), (0x43, 17), (0x44, 0), (0x45, 18), (0x46, 0), (0x47, 0), (0x50, 13), (0x51, 1),
       (0x52, 1), (0x53, 0), (0x54, 0), (0x60, 4), (0x61, 7), (0x62, 2), (0x63, 0), (0x64, 0), (0x65, 1), (0x66, 0),
       (0x67, 0)]
    let known := code ∈ layouts.map fun x => x.1
    let answer := fun st => exec (.cabFrameArrival f) s = .next (settle s (replied code tag st [] s))
    (free = 0 →
      exec (.cabFrameArrival f) s =
        .next (settle s { s with port := { s.port with previous := some { code := code, status := .none } } })) ∧
    (0 < free → ¬known → answer .unknown) ∧
    (0 < free → known → s.port.inFlight ≠ none → code ≠ 0x14 → code ≠ 0x16 → code ≠ 0x18 → answer .busy) ∧
    (0 < free → known → s.port.pendingReset ≠ none → answer .busy) ∧
    (∀ n, 0 < free → (s.port.inFlight = none ∨ code = 0x14 ∨ code = 0x16 ∨ code = 0x18) → s.port.pendingReset = none →
      (code, n) ∈ layouts → f.data.length - 2 < n → answer .parameter)

/-- R199 (and R17, R18): in park, a cab-link frame of any identifier, and an A rising edge that the glitch filter accepts,
wake the part with a wake delay of 50 ms; the waking frame is lost; the edge counts a pulse, is judged for alternation and
becomes the A reference, and both pulse inputs keep their counts, references and last channels and restart their period
timers, with no flow and no period start. A wake-delay end that is not due lets time pass alone (entry 4). That nothing is
in transmission after wake is read from R176 (entry 23, DEDUCED). -/
def Obligations.WakeSourcesWakeThePart : Prop :=
  let woken := fun (at_ : Micros) (p : PulseInput) =>
    ({ forward := p.forward, reverse := p.reverse, errors := p.errors, refA := p.refA, refB := p.refB, last := p.last,
       timerStart := at_, periodStart := false, flow := 0 } : PulseInput)
  (∀ (f : Frame) (s : State), s.power.on = true → s.power.parked = true → s.forward.cabOff = false →
    exec (.cabFrameArrival f) s = .next (settle s
      { s with
        power := { s.power with parked := false, wakeDelay := some (s.awake + 50000) }
        pulse := { line1 := woken s.awake s.pulse.line1, line2 := woken s.awake s.pulse.line2 }
        line := { line1 := { s.line.line1 with temp := none, nextTick := s.awake + 100000 },
                  line2 := { s.line.line2 with temp := none, nextTick := s.awake + 100000 } }
        port := { s.port with previous := none }
        forward := { s.forward with txField := none, txCab := none } })) ∧
  (∀ (l : LineId) (t : Micros) (s : State), s.power.on = true → s.power.parked = true →
    let bHigh := (s.levels.get l).b
    let p := s.pulse.get l
    let edge := s.pulse.set l
      { p with
        forward := if bHigh then p.forward else min 65535 (p.forward + 1)
        reverse := if bHigh then min 65535 (p.reverse + 1) else p.reverse
        errors := if p.last = some .a then min 65535 (p.errors + 1) else p.errors
        refA := some (max s.now t)
        last := some .a }
    (∀ r, p.refA = some r → 200 ≤ max s.now t - r) →
    exec (.edgeEvent l (.rising .a) t) s = .next (settle s
      { advanceTo t s with
        levels := s.levels.set l { s.levels.get l with a := true }
        power := { s.power with parked := false, wakeDelay := some (s.awake + 50000) }
        pulse := { line1 := woken s.awake edge.line1, line2 := woken s.awake edge.line2 }
        line := { line1 := { s.line.line1 with temp := none, nextTick := s.awake + 100000 },
                  line2 := { s.line.line2 with temp := none, nextTick := s.awake + 100000 } }
        port := { s.port with previous := none }
        forward := { s.forward with txField := none, txCab := none } })) ∧
  (∀ (t d : Micros) (s : State), s.power.on = true → s.power.wakeDelay = some d → d ≤ (advanceTo t s).awake →
    exec (.wakeDelayEnd t) s = .next (settle s
      { advanceTo t s with power := { s.power with wakeDelay := none } })) ∧
  (∀ (t : Micros) (s : State), s.power.on = true → (∀ d, s.power.wakeDelay = some d → (advanceTo t s).awake < d) →
    exec (.wakeDelayEnd t) s = .next (settle s (advanceTo t s)))

/-! ### Pulse inputs -/

/-- R1, R3, R4, R7, R8, R9: an accepted A rising edge while the part is not parked. -/
def Obligations.AcceptedEdgeCountsAndTimes : Prop :=
  ∀ (l : LineId) (t : Micros) (s : State), Running s →
    let a := advanceTo t s
    let p := s.pulse.get l
    let bHigh := (s.levels.get l).b
    a.awake < p.timerStart + 2031616 → (∀ r, p.refA = some r → 200 ≤ a.now - r) →
    exec (.edgeEvent l (.rising .a) t) s = .next (settle s
      { a with
        levels := s.levels.set l { s.levels.get l with a := true }
        pulse := s.pulse.set l
          { p with
            forward := if bHigh then p.forward else min 65535 (p.forward + 1)
            reverse := if bHigh then min 65535 (p.reverse + 1) else p.reverse
            errors := if p.last = some .a then min 65535 (p.errors + 1) else p.errors
            refA := some a.now
            last := some .a
            timerStart := a.awake
            periodStart := !bHigh
            flow :=
              if bHigh then 0
              else if p.periodStart then
                (if (s.cal.lines.get l).k = 0 then 0
                 else min 65535 (600000000 / ((a.awake - p.timerStart) * (s.cal.lines.get l).k)))
              else p.flow } })

/-- R1, R2, R4, R6: a rejected edge counts one integrity error and nothing else; an accepted B edge acts on the
alternation checker alone; a falling edge changes its channel's level alone. The arrival of the overflow count at 31 makes
the flow rate 0 and the period start absent; an edge that finds the count at 31 is taken after that (entry 32), and an
accepted A edge then captures no period (R7, R9). An overflow event that is not due lets time pass alone (entry 4). All
but that A edge hold in park too, and leave the part parked (R17): the time of the lines stands still there, the period
timer does not overflow, and no tick is taken. -/
def Obligations.OtherEdgesAndOverflow : Prop :=
  ∀ (l : LineId) (t : Micros) (s : State), s.power.on = true →
    let a := advanceTo t s
    let p := s.pulse.get l
    let v := s.levels.get l
    let becomes := fun (e : PulserEdge) (w : PulserLevels) (q : PulseInput) =>
      exec (.edgeEvent l e t) s = .next (settle s { a with levels := s.levels.set l w, pulse := s.pulse.set l q })
    let acts := fun (q : PulseInput) =>
      (∀ r, p.refA = some r → a.now - r < 200 →
        becomes (.rising .a) { v with a := true } { q with errors := min 65535 (p.errors + 1) }) ∧
      (∀ r, p.refB = some r → a.now - r < 200 →
        becomes (.rising .b) { v with b := true } { q with errors := min 65535 (p.errors + 1) }) ∧
      ((∀ r, p.refB = some r → 200 ≤ a.now - r) →
        becomes (.rising .b) { v with b := true }
          { q with
            errors := if p.last = some .b then min 65535 (p.errors + 1) else p.errors
            refB := some a.now
            last := some .b }) ∧
      becomes (.falling .a) { v with a := false } q ∧ becomes (.falling .b) { v with b := false } q
    let still : PulseInput := { p with flow := 0, periodStart := false }
    (a.awake < p.timerStart + 2031616 →
      acts p ∧ exec (.periodTimerOverflow l t) s = .next (settle s a)) ∧
    (p.timerStart + 2031616 ≤ a.awake → acts still) ∧
    (s.power.parked = true →
      a.awake = s.awake ∧ a.power = s.power ∧ exec (.periodTimerOverflow l t) s = .next (settle s a) ∧
        exec (.meteringTick l t) s = .next (settle s a)) ∧
    (s.power.parked = false → p.timerStart + 2031616 ≤ a.awake →
      exec (.periodTimerOverflow l t) s = .next (settle s { a with pulse := s.pulse.set l still }) ∧
      ((∀ r, p.refA = some r → 200 ≤ a.now - r) →
        becomes (.rising .a) { v with a := true }
          { still with
            forward := if v.b then p.forward else min 65535 (p.forward + 1)
            reverse := if v.b then min 65535 (p.reverse + 1) else p.reverse
            errors := if p.last = some .a then min 65535 (p.errors + 1) else p.errors
            refA := some a.now
            last := some .a
            timerStart := a.awake
            periodStart := !v.b }))

/-! ### Metering ticks -/

/-- Section 6.3 and R22: rounded half away from zero and rounded half up take a nearest integer, and on an exact half the
one of greater magnitude, or the greater one; the selected band is a used entry, its lower bound is not above the flow
rate, and none such has a greater one. -/
def Obligations.RoundingsAndBandSelection : Prop :=
  (∀ a d : Int, 0 < d →
    2 * |a - divHalfAway a d * d| ≤ d ∧ (2 * |a - divHalfAway a d * d| = d → |a| < |divHalfAway a d * d|) ∧
      2 * |a - divHalfUp a d * d| ≤ d ∧ (2 * |a - divHalfUp a d * d| = d → a < divHalfUp a d * d)) ∧
  (∀ (b : Band) (bands : List Band) (flow : Nat), b.lower = 0 →
    selectBand (b :: bands) flow ∈ b :: bands ∧ (selectBand (b :: bands) flow).lower ≤ flow ∧
      ∀ x ∈ b :: bands, x.lower ≤ flow → x.lower ≤ (selectBand (b :: bands) flow).lower)

/-- R28, R29, R30: the volume-correction factor of a tick; it lies within 900,000 to 1,100,000 ppm; the clamp acts at a
tick, which marks VCF_CLAMPED, exactly when there is a product and a temperature and the factor before the clamp lies
outside that range. -/
def Obligations.TickUsesVolumeCorrection : Prop :=
  ∀ (l : LineId) (s : State),
    let unclamped := fun (p : Product) (x : Sample) =>
      1000000 - divHalfAway (p.alpha * (x.value - p.tref)) 100
        + divHalfUp (p.beta * (x.value - p.tref) * (x.value - p.tref)) 10000000
    let converts := fun (p : Product) =>
      (s.lineState l ≠ .idle ∧ ∃ d, s.ctx l = some d ∧ p = s.cal.products[d.product]) ∨
        (s.lineState l = .idle ∧ ∃ q, (s.line.get l).kept.hose = .product q ∧ p = s.cal.products[q] ∧ p.defined = true)
    (900000 ≤ tickVcf s l ∧ tickVcf s l ≤ 1100000) ∧
    (tickClamps s l = true ↔
      ∃ p x, (s.line.get l).temp = some x ∧ converts p ∧ (unclamped p x < 900000 ∨ 1100000 < unclamped p x)) ∧
    ((s.line.get l).temp = none → tickVcf s l = 1000000) ∧
    (s.lineState l = .idle → (∀ p, (s.line.get l).kept.hose = .product p → s.cal.products[p].defined = false) →
      tickVcf s l = 1000000) ∧
    (∀ (p : Product) (x : Sample), (s.line.get l).temp = some x → converts p →
      tickVcf s l = max 900000 (min 1100000 (unclamped p x)))

/-- R12, R13, R21, R23, R31, R34: what a due tick takes from the pulse input and adds to the totalizers, and what it
carries. The frame of R20: the other line, the journal, the orders, the calibration set, the lock, the links and the
port are unchanged. A tick that is not due lets time pass alone (entry 4). -/
def Obligations.TickConvertsPulses : Prop :=
  (∀ (l : LineId) (t : Micros) (s : State), s.power.on = true →
    (s.power.parked = true ∨ (advanceTo t s).awake < (s.line.get l).nextTick) →
    exec (.meteringTick l t) s = .next (settle s (advanceTo t s))) ∧
  ∀ (l : LineId) (t : Micros) (s : State), Running s → (s.line.get l).nextTick ≤ (advanceTo t s).awake →
    let p := s.pulse.get l
    let n : Int := (p.forward : Int) - p.reverse
    let k := (s.cal.lines.get l).k
    let m := 1000000 + (selectBand (s.cal.lines.get l).bands p.flow).correction
    let old := (s.line.get l).kept
    let ng := n * 1000 * m + old.grossRem
    let nn := n * 1000 * m * tickVcf s l + old.netRem
    (tickConversion s l n p.flow =
      if k = 0 then { gross := 0, net := 0, grossRem := old.grossRem, netRem := old.netRem }
      else
        { gross := ng / (k * 1000000)
          net := nn / (k * 1000000000000)
          grossRem := ng - ng / (k * 1000000) * (k * 1000000)
          netRem := nn - nn / (k * 1000000000000) * (k * 1000000000000) }) ∧
    ∃ u, exec (.meteringTick l t) s = .next u ∧
      u.pulse = s.pulse.set l { p with forward := 0, reverse := 0, errors := 0 } ∧
      (u.line.get l).kept.lifetimeErrors = min 4294967295 (old.lifetimeErrors + p.errors) ∧
      (k = 0 →
        (u.line.get l).kept.grossTotal = old.grossTotal ∧ (u.line.get l).kept.netTotal = old.netTotal ∧
          (u.line.get l).kept.grossRem = old.grossRem ∧ (u.line.get l).kept.netRem = old.netRem) ∧
      (0 < k →
        (u.line.get l).kept.grossTotal = old.grossTotal + ng / (k * 1000000) ∧
          (u.line.get l).kept.grossRem = ng - ng / (k * 1000000) * (k * 1000000) ∧
          (u.line.get l).kept.netTotal = old.netTotal + nn / (k * 1000000000000) ∧
          (u.line.get l).kept.netRem = nn - nn / (k * 1000000000000) * (k * 1000000000000)) ∧
      (u.line.get l).nextTick = (s.line.get l).nextTick + 100000 ∧
      (∀ o, o ≠ l → u.line.get o = s.line.get o ∧ u.valve.get o = s.valve.get o ∧
        u.settings.lines.get o = s.settings.lines.get o) ∧
      u.journal = s.journal ∧ u.orders = s.orders ∧ u.cal = s.cal ∧ u.lock = s.lock ∧ u.forward = s.forward ∧
      u.port = s.port ∧ u.power = s.power ∧ u.pumpSlot = s.pumpSlot ∧ u.journalDamage = s.journalDamage

/-- R20, R35, R36, R49: where the increments of a due tick go. `c` is the tick's conversion (R23, R31). Step 7 is taken on
the values `v` that steps 1 to 6 have left, and step 8 is the end of the event. The basis increment is the gross increment
of a GROSS product and the net increment of a NET one (R32). A sum of reverse pulses beyond 32 bits is free (entry 26). A
tick that is not due routes nothing and lets time pass alone (entry 4). -/
def Obligations.TickRoutesVolume : Prop :=
  (∀ (l : LineId) (t : Micros) (s : State), s.power.on = true →
    (s.power.parked = true ∨ (advanceTo t s).awake < (s.line.get l).nextTick) →
    exec (.meteringTick l t) s = .next (settle s (advanceTo t s))) ∧
  ∀ (l : LineId) (t : Micros) (s : State), Running s → (s.line.get l).nextTick ≤ (advanceTo t s).awake →
    let p := s.pulse.get l
    let n : Int := (p.forward : Int) - p.reverse
    let c := tickConversion s l n p.flow
    let ln := s.line.get l
    let age := match ln.temp with
      | none => AgeClass.absent
      | some x => if (advanceTo t s).awake - x.since ≤ 3000000 then .fresh else .held
    let increment := fun (d : Delivery) => match s.cal.products[d.product].basis with
      | .gross => c.gross
      | .net => c.net
    let late := s.lineState l = .paused ∨ s.lineState l = .finished ∨ s.lineState l = .suspended ∨
      s.lineState l = .interrupted
    let flagged := fun (f : Flags) =>
      { f with
        tempHeld := f.tempHeld || (decide (n ≠ 0) && decide (age = .held))
        tempAbsent := f.tempAbsent || (decide (n ≠ 0) && decide (age = .absent))
        vcfClamped := f.vcfClamped || (decide (n ≠ 0) && tickClamps s l)
        lateFlow := f.lateFlow || (decide (n ≠ 0) && decide late)
        airUnmonitored := f.airUnmonitored || ln.airSilent }
    let errors := fun (d : Delivery) => { d with integrityErrors := min 4294967295 (d.integrityErrors + p.errors) }
    let routed := fun (d : Delivery) =>
      { errors d with
        gross := d.gross + c.gross
        net := d.net + c.net
        billed := if ln.airFlag = true then d.billed else d.billed + increment d
        unbilled := if ln.airFlag = true then d.unbilled + increment d else d.unbilled
        reversePulses :=
          if d.reversePulses + p.reverse ≤ 4294967295 then d.reversePulses + p.reverse
          else (Config.reversePulsesBeyond (d.reversePulses + p.reverse)).toNat
        sumTG := match ln.temp with
          | none => d.sumTG
          | some x => d.sumTG + c.gross * x.value
        tempGross := match ln.temp with
          | none => d.tempGross
          | some _ => d.tempGross + c.gross
        flags := flagged d.flags }
    let outside := s.lineState l = .idle ∨ s.lineState l = .armed ∨ s.lineState l = .closing
    let v : State :=
      { advanceTo t s with
        pulse := s.pulse.set l { p with forward := 0, reverse := 0, errors := 0 }
        line := s.line.set l
          { ln with
            nextTick := ln.nextTick + 100000
            kept := { ln.kept with
              lifetimeErrors := min 4294967295 (ln.kept.lifetimeErrors + p.errors)
              grossTotal := ln.kept.grossTotal + c.gross
              netTotal := ln.kept.netTotal + c.net
              grossRem := c.grossRem
              netRem := c.netRem
              unattended := if outside then ln.kept.unattended + c.gross else ln.kept.unattended
              ctx :=
                if s.lineState l = .closing then ln.kept.ctx
                else if outside then ln.kept.ctx.map errors
                else ln.kept.ctx.map routed } }
        compartments := match ln.kept.ctx with
          | none => s.compartments
          | some d =>
            if outside then s.compartments
            else s.compartments.set d.compartment
              { s.compartments[d.compartment] with remaining := s.compartments[d.compartment].remaining - c.net } }
    exec (.meteringTick l t) s = .next (settle s (evaluate l v)) ∧
    tick l { advanceTo t s with line := s.line.set l { ln with nextTick := ln.nextTick + 100000 } } = evaluate l v ∧
    ∃ u, exec (.meteringTick l t) s = .next u ∧
      ((s.lineState l = .idle ∨ s.lineState l = .armed ∨ s.lineState l = .closing) →
        (u.line.get l).kept.unattended = ln.kept.unattended + c.gross ∧ u.compartments = s.compartments) ∧
      (∀ d, s.ctx l = some d → (s.lineState l ≠ .idle ∧ s.lineState l ≠ .armed ∧ s.lineState l ≠ .closing) →
        (u.line.get l).kept.unattended = ln.kept.unattended ∧
        u.compartments = s.compartments.set d.compartment
          { s.compartments[d.compartment] with remaining := s.compartments[d.compartment].remaining - c.net } ∧
        ∃ e, u.ctx l = some e ∧ e.gross = d.gross + c.gross ∧ e.net = d.net + c.net ∧
          (ln.airFlag = false →
            (s.cal.products[d.product].basis = .gross → e.billed = d.billed + c.gross) ∧
              (s.cal.products[d.product].basis = .net → e.billed = d.billed + c.net) ∧ e.unbilled = d.unbilled) ∧
          (ln.airFlag = true →
            (s.cal.products[d.product].basis = .gross → e.unbilled = d.unbilled + c.gross) ∧
              (s.cal.products[d.product].basis = .net → e.unbilled = d.unbilled + c.net) ∧ e.billed = d.billed) ∧
          (d.reversePulses + p.reverse ≤ 4294967295 → e.reversePulses = d.reversePulses + p.reverse) ∧
          e.integrityErrors = min 4294967295 (d.integrityErrors + p.errors) ∧
          (ln.temp = none → e.sumTG = d.sumTG ∧ e.tempGross = d.tempGross) ∧
          (∀ x, ln.temp = some x →
            e.sumTG = d.sumTG + c.gross * x.value ∧ e.tempGross = d.tempGross + c.gross) ∧
          e.flags = flagged d.flags)

/-- R83, R84, R89, R94: step 7 of a tick of a line in FLOWING or SLOWDOWN, on the values `v` that the tick has left; the
causes that are met are those of the tests that hold, in the order of R83. -/
def Obligations.FlowingLineTests : Prop :=
  ∀ (l : LineId) (v : State) (d : Delivery), v.ctx l = some d → (v.lineState l = .flowing ∨ v.lineState l = .slowdown) →
    (v.valve.get l).commanded ≠ .close →
    let cal := v.cal.lines.get l
    let set := v.settings.lines.get l
    let tests : List (Bool × StopCause) :=
      [(decide (cal.integrityLimit < d.integrityErrors), .pulserFault),
       (decide (1 ≤ d.reversePulses ∧ cal.reverseLimit * cal.k ≤ d.reversePulses * 1000), .reverseFlow),
       (decide (∃ x, (v.line.get l).temp = some x ∧ 30000000 < v.awake - x.since), .tempLost),
       (decide (50000000 ≤ d.billed), .volumeLimit),
       (decide (d.kind = .delivery ∧ ∃ p, d.preset = some p ∧ max (p - set.closeAhead) (p / 2) ≤ d.billed), .preset),
       (decide (v.compartments[d.compartment].remaining ≤ v.compartments[d.compartment].reserve), .compartmentLow)]
    let met := (tests.filter fun x => x.1).map fun x => x.2
    let runs := match d.kind with
      | .delivery => d.billed
      | .flush => d.gross
    let slow := v.lineState l = .flowing ∧ ∃ p, d.kind = .delivery ∧ d.preset = some p ∧ p - set.slowdown ≤ d.billed
    let full := v.lineState l = .flowing ∧ (v.valve.get l).commanded = .openSlow ∧ set.softStart ≤ runs
    (met ≠ [] → evaluate l v = enterStopping l met v) ∧
    (met = [] → slow → evaluate l v = noFlowTest l (enterState l .slowdown v)) ∧
    (met = [] → ¬slow → full →
      evaluate l v = noFlowTest l
        { issueStage l .openFull v with reports := { v.reports with lines := v.reports.lines.set l true } }) ∧
    (met = [] → ¬slow → ¬full → evaluate l v = noFlowTest l v) ∧
    ((v.pulse.get l).flow = 0 → (v.line.get l).noFlow = none →
      noFlowTest l v = v.modLine l fun x => { x with noFlow := some (v.awake + set.noFlow * 1000000) }) ∧
    ((v.pulse.get l).flow = 0 → (v.line.get l).noFlow ≠ none → noFlowTest l v = v) ∧
    ((v.pulse.get l).flow ≠ 0 → noFlowTest l v = v.modLine l fun x => { x with noFlow := none })

/-- R87, R94, R95: step 7 of a tick of a line outside FLOWING and SLOWDOWN, on the values `v` that the tick has left; a
line without a delivery context, as every line in IDLE is (R68), has no test. That a line which a fault takes from
AIR_HOLD into STOPPING is tested for completion in the same tick is deduced from R87 (entry 20). That the faults of one
tick reach a suspension in the order of R94 is the model's choice (entry 47). -/
def Obligations.StoppedLineTests : Prop :=
  (∀ (l : LineId) (v : State), v.ctx l = none → evaluate l v = v) ∧
  ∀ (l : LineId) (v : State) (d : Delivery), v.ctx l = some d →
    let cal := v.cal.lines.get l
    let tests : List (Bool × StopCause) :=
      [(decide (cal.integrityLimit < d.integrityErrors), .pulserFault),
       (decide (1 ≤ d.reversePulses ∧ cal.reverseLimit * cal.k ≤ d.reversePulses * 1000), .reverseFlow)]
    let met := (tests.filter fun x => x.1).map fun x => x.2
    ((v.lineState l = .idle ∨ v.lineState l = .armed ∨ v.lineState l = .closing) → evaluate l v = v) ∧
    (met = [] →
      (v.lineState l = .paused ∨ v.lineState l = .finished ∨ v.lineState l = .suspended ∨ v.lineState l = .interrupted ∨
        v.lineState l = .airHold) →
      evaluate l v = v) ∧
    (met = [] → v.lineState l = .stopping → evaluate l v = completeStopping l v) ∧
    (met ≠ [] → v.lineState l = .airHold → evaluate l v = completeStopping l (enterStopping l met v)) ∧
    (met ≠ [] → v.lineState l = .stopping → evaluate l v = completeStopping l (furtherCauses l met v)) ∧
    (met ≠ [] → v.lineState l = .suspended →
      evaluate l v = v.modCtx l fun e => { e with faults := addFaults e.faults met }) ∧
    (met ≠ [] → (v.lineState l = .paused ∨ v.lineState l = .finished ∨ v.lineState l = .interrupted) →
      evaluate l v = enterSuspended l met v)

/-! ### Changes of line state and stops -/

/-- R70, R89 to R92, R103 and R186: what a change of line state does, and all that it does; what issuing a stage does, at
whatever stage is in effect (R103, R112); and the updates of one part of the state in which these statements speak. -/
def Obligations.LineStateChange : Prop :=
  (∀ (l : LineId) (s : State) (line : Line → Line) (ctx : Delivery → Delivery) (valve : ValveRecord → ValveRecord),
    let ln := s.line.get l
    s.lineState l = ln.kept.state ∧ s.ctx l = ln.kept.ctx ∧
      s.modLine l line = { s with line := s.line.set l (line ln) } ∧
      s.modCtx l ctx = { s with line := s.line.set l { ln with kept := { ln.kept with ctx := ln.kept.ctx.map ctx } } } ∧
      s.modValve l valve = { s with valve := s.valve.set l (valve (s.valve.get l)) }) ∧
  ∀ (l : LineId) (st : LineState) (s : State),
    let ln := s.line.get l
    let v := s.valve.get l
    let volume := match ln.kept.ctx with
      | none => 0
      | some d => if d.kind = .delivery then d.billed else d.gross
    let stage : Stage :=
      if st = .flowing then (if volume < (s.settings.lines.get l).softStart then .openSlow else .openFull)
      else if st = .slowdown then .openSlow
      else .close
    enterState l st s =
      { s with
        line := s.line.set l
          { ln with
            kept := { ln.kept with state := st }
            noFlow := if st = .flowing ∨ st = .slowdown then ln.noFlow else none
            airHold := if st = .airHold then ln.airHold else none
            resume := if st = .airHold then ln.resume else none
            report :=
              if st = .idle then none
              else if ln.kept.state = .idle then some (s.awake + s.settings.reportInterval * 1000)
              else ln.report }
        valve := s.valve.set l
          (if stage = v.commanded then v
           else
            { v with
              commanded := stage
              sendCount := 1
              confirmed := false
              confirmTimer := some (s.awake + 500000)
              escalated := false
              retryTimer := none
              slot := some stage })
        reports := { s.reports with lines := s.reports.lines.set l true } } ∧
    (∀ g : Stage,
      issueStage l g s =
        { s with
          valve := s.valve.set l
            { commanded := g, sendCount := 1, confirmed := false, confirmTimer := some (s.awake + 500000),
              escalated := false, retryTimer := none, reported := v.reported, slot := some g } })

/-- R85, R86, R95 and R96: the context of a line on a first stop cause, on further ones and on a suspension, several
causes at a time, the targets of the causes, and their order: SUSPENDED over FINISHED over PAUSED. That a suspension on
several faults takes the first as its stop cause is the model's choice (entry 47). -/
def Obligations.StopCausesSetTheTarget : Prop :=
  (∀ (l : LineId) (c : StopCause) (cs : List StopCause) (s : State) (d : Delivery), s.ctx l = some d →
    enterStopping l (c :: cs) s = enterState l .stopping (s.modLine l fun ln =>
      { ln with
        airInStop := ln.airFlag
        kept := { ln.kept with
          ctx := some { d with stopCause := some c, faults := addFaults d.faults (c :: cs),
                               stopTarget := some (worstTarget (c :: cs)) } } })) ∧
  (∀ (l : LineId) (c : StopCause) (s : State) (d : Delivery) (g : StopTarget), s.ctx l = some d →
    d.stopTarget = some g →
    furtherCauses l [c] s = s.modLine l fun ln =>
      { ln with
        kept := { ln.kept with
          ctx := some { d with faults := addFault d.faults c
                               stopTarget := some (if g.code < (causeTarget c).code then causeTarget c else g) } } }) ∧
  (∀ (l : LineId) (cs : List StopCause) (s : State) (d : Delivery) (g : StopTarget), s.ctx l = some d →
    d.stopTarget = some g →
    furtherCauses l cs s = s.modLine l fun ln =>
      { ln with
        kept := { ln.kept with
          ctx := some { d with faults := addFaults d.faults cs
                               stopTarget := some (if g.code < (worstTarget cs).code then worstTarget cs else g) } } }) ∧
  (∀ (l : LineId) (c : StopCause) (cs : List StopCause) (s : State) (d : Delivery), s.ctx l = some d →
    enterSuspended l (c :: cs) s = enterState l .suspended (s.modLine l fun ln =>
      { ln with
        kept := { ln.kept with
          ctx := some { d with stopCause := (match d.stopCause with
                                 | none => some c
                                 | some x => some x)
                               faults := addFaults d.faults (c :: cs)
                               stopTarget := some .suspended } } })) ∧
  (∀ (f : FaultSet) (cs : List StopCause) (x : StopCause), faultIn (addFaults f cs) x = (faultIn f x || decide (x ∈ cs))) ∧
  (∀ (c : StopCause) (cs : List StopCause), c ∈ cs → (causeTarget c).code ≤ (worstTarget cs).code) ∧
  (∀ (c : StopCause) (cs : List StopCause), ∃ x ∈ c :: cs, worstTarget (c :: cs) = causeTarget x) ∧
  (∀ (f : FaultSet) (c x : StopCause), faultIn (addFault f c) x = (faultIn f x || decide (x = c))) ∧
  (∀ (f : FaultSet) (c x : StopCause), faultIn f x = f.getLsbD x.code ∧ faultIn (onlyFault c) x = decide (x = c)) ∧
  (StopTarget.paused.code < StopTarget.finished.code ∧ StopTarget.finished.code < StopTarget.suspended.code) ∧
  (∀ c : StopCause,
    (causeTarget c = .suspended ↔ c = .pulserFault ∨ c = .reverseFlow ∨ c = .tempLost ∨ c = .airTimeout ∨
      c = .emergencyStop ∨ c = .valveFault) ∧
    (causeTarget c = .finished ↔ c = .volumeLimit ∨ c = .preset ∨ c = .compartmentLow ∨ c = .operatorStop) ∧
    (causeTarget c = .paused ↔ c = .operatorPause ∨ c = .noFlow ∨ c = .powerLoss))

/-- R87 and R88: a line in STOPPING completes into its target when its CLOSE is confirmed and its flow rate is 0, and
adapts its close-ahead when it stopped on PRESET alone. -/
def Obligations.StoppingCompletesAndAdapts : Prop :=
  ∀ (l : LineId) (s : State) (d : Delivery) (g : StopTarget),
    s.lineState l = .stopping → s.ctx l = some d → d.stopTarget = some g →
    let ready := (s.valve.get l).commanded = .close ∧ (s.valve.get l).confirmed = true ∧ (s.pulse.get l).flow = 0
    let into := fun (x : State) =>
      enterState l
        (match g with
          | .paused => .paused
          | .finished => .finished
          | .suspended => .suspended)
        (x.modLine l fun ln => { ln with airInStop := false })
    (¬ready → completeStopping l s = s) ∧
    (ready →
      (d.stopCause ≠ some .preset ∨ d.faults ≠ onlyFault .preset ∨ (s.line.get l).airInStop = true ∨
        (∀ p, d.preset = some p → p < 50000)) →
      completeStopping l s = into s) ∧
    (ready → d.stopCause = some .preset → d.faults = onlyFault .preset → (s.line.get l).airInStop = false →
      ∀ p, d.preset = some p → 50000 ≤ p →
      let v := max 0 (min 5000 ((s.settings.lines.get l).closeAhead + Int.tdiv (d.billed - p) 4))
      completeStopping l s = into
        { s with
          settings := { s.settings with
            lines := s.settings.lines.set l { s.settings.lines.get l with closeAhead := v } }
          storedSettings := { s.storedSettings with
            lines := s.storedSettings.lines.set l { s.storedSettings.lines.get l with closeAhead := v } } })

/-! ### Timers of lines and valves -/

/-- R27, R89, R91, R92, R93 and R186: the expiries of a line's timers, each when it is due at the instant at which it
is taken; the expiry of a timer that is stopped, not yet due, standing still in park, or of no concern in the line's state
does not happen, and lets time pass alone (entry 4). -/
def Obligations.TimerExpiriesAct : Prop :=
  (∀ (l : LineId) (t : Micros) (s : State), s.power.on = true →
    let a := advanceTo t s
    let ln := s.line.get l
    let rests := fun (timer : Timer) => s.power.parked = true ∨ ∀ x, timer = some x → a.awake < x
    let passes := fun (i : Instr) => exec i s = .next (settle s a)
    ((rests ln.noFlow ∨ (s.lineState l ≠ .flowing ∧ s.lineState l ≠ .slowdown)) → passes (.noFlowTimerExpiry l t)) ∧
    ((rests ln.airHold ∨ s.lineState l ≠ .airHold) → passes (.airHoldTimerExpiry l t)) ∧
    (rests ln.airClear → passes (.airClearTimerExpiry l t)) ∧
    (rests ln.airSilence → passes (.airSilenceExpiry l t)) ∧
    (rests ln.report → passes (.reportTimerExpiry l t))) ∧
  ∀ (l : LineId) (t : Micros) (s : State), Running s →
    let a := advanceTo t s
    let ln := s.line.get l
    let due := fun (timer : Timer) => ∃ x, timer = some x ∧ x ≤ a.awake
    (due ln.noFlow → (s.lineState l = .flowing ∨ s.lineState l = .slowdown) →
      exec (.noFlowTimerExpiry l t) s = .next (settle s (enterStopping l [.noFlow] a))) ∧
    (due ln.airHold → s.lineState l = .airHold →
      exec (.airHoldTimerExpiry l t) s = .next (settle s (enterStopping l [.airTimeout] a))) ∧
    (due ln.airClear → (s.lineState l ≠ .airHold ∨ ln.resume = none) →
      exec (.airClearTimerExpiry l t) s = .next (settle s
        (a.modLine l fun x => { x with airFlag := false, airClear := none }))) ∧
    (∀ r, due ln.airClear → s.lineState l = .airHold → ln.resume = some r →
      exec (.airClearTimerExpiry l t) s = .next (settle s
        (enterState l (match r with
          | .flowing => .flowing
          | .slowdown => .slowdown) (a.modLine l fun x => { x with airFlag := false, airClear := none })))) ∧
    (due ln.airSilence → s.lineState l ≠ .airHold →
      exec (.airSilenceExpiry l t) s = .next (settle s (a.modLine l fun x =>
        { x with airFlag := false, airClear := none, airSilent := true, airSilence := none }))) ∧
    (due ln.airSilence → s.lineState l = .airHold →
      exec (.airSilenceExpiry l t) s = .next (settle s
        (a.modLine l fun x => { x with airSilence := some (a.awake + 5000000) }))) ∧
    (due ln.report →
      exec (.reportTimerExpiry l t) s = .next (settle s
        { a with
          line := s.line.set l { ln with report := some (a.awake + s.settings.reportInterval * 1000) }
          reports := { s.reports with lines := s.reports.lines.set l true } })) ∧
    (∀ x, ln.temp = some x → x.since ≤ a.awake →
      ∃ u, exec (.temperatureAgeExpiry l t) s = .next u ∧ (u.line = s.line ∧ u.valve = s.valve ∧ u.now = a.now) ∧
        (ageClass u.awake (u.line.get l).temp = .held ↔ x.since + 3000000 < a.awake) ∧
        (ageClass u.awake (u.line.get l).temp = .fresh ↔ a.awake ≤ x.since + 3000000)) ∧
    ageClass a.awake none = .absent

/-- R105, R106, R109 and R110: the end of a confirmation window, and the retries of an escalated CLOSE. The confirmation
window of an escalated valve is over (entry 21). The expiry of a window that is stopped, confirmed, escalated or not yet
over, or of a retry timer that is stopped, not escalated or not yet due, does not happen, and lets time pass alone (entry
4). -/
def Obligations.ValveTimersResendAndEscalate : Prop :=
  (∀ (l : LineId) (t : Micros) (s : State), s.power.on = true →
    let a := advanceTo t s
    let v := s.valve.get l
    let rests := fun (timer : Timer) => s.power.parked = true ∨ ∀ x, timer = some x → a.awake < x
    ((rests v.confirmTimer ∨ v.confirmed = true ∨ v.escalated = true) →
      exec (.confirmationTimerExpiry l t) s = .next (settle s a)) ∧
    ((rests v.retryTimer ∨ v.escalated = false) → exec (.retryTimerExpiry l t) s = .next (settle s a))) ∧
  ∀ (l : LineId) (t : Micros) (s : State), Running s →
    let a := advanceTo t s
    let v := s.valve.get l
    let resent := fun (n : Nat) =>
      { a with
        valve := s.valve.set l
          { v with sendCount := n, confirmed := false, confirmTimer := some (a.awake + 500000),
                   slot := some v.commanded } }
    let window := exec (.confirmationTimerExpiry l t) s
    ((∃ x, v.confirmTimer = some x ∧ x ≤ a.awake) → v.confirmed = false → v.escalated = false →
      (v.commanded = .close → v.sendCount < 3 → window = .next (settle s (resent (v.sendCount + 1)))) ∧
      (v.commanded = .close → ¬v.sendCount < 3 → window = .next (settle s (escalate l a))) ∧
      (v.commanded ≠ .close → v.sendCount < 2 → window = .next (settle s (resent 2))) ∧
      (v.commanded ≠ .close → ¬v.sendCount < 2 →
        (s.lineState l = .flowing ∨ s.lineState l = .slowdown) →
        window = .next (settle s (enterSuspended l [.valveFault]
          { a with valve := s.valve.set l { v with confirmTimer := none } }))) ∧
      (v.commanded ≠ .close → ¬v.sendCount < 2 → s.lineState l ≠ .flowing → s.lineState l ≠ .slowdown →
        window = .next (settle s { a with valve := s.valve.set l { v with confirmTimer := none } }))) ∧
    ((∃ x, v.retryTimer = some x ∧ x ≤ a.awake) → v.escalated = true →
      exec (.retryTimerExpiry l t) s = .next (settle s
        { a with
          valve := s.valve.set l
            { v with slot := some .close, retryTimer := some (a.awake + 2000000) } })) ∧
    escalate l a =
      (let w : State :=
        { a with
          valve := s.valve.set l
            { v with confirmed := false, confirmTimer := none, escalated := true,
                     retryTimer := some (a.awake + 2000000) }
          pumpSlot := some { reason := .valveFault, line := some l } }
       match s.lineState l with
       | .idle => w
       | .armed => w
       | .closing => w
       | .suspended => w.modCtx l fun d => { d with faults := addFault d.faults .valveFault }
       | _ => enterSuspended l [.valveFault] w)

/-! ### Field frames -/

/-- R163: with the nine identifiers distinct (R139), each field identifier has its one owner, and no other 29-bit
identifier and no 11-bit one has an owner. -/
def Obligations.FieldIdentifiersHaveOneOwner : Prop :=
  ∀ (c : Calibration) (f : Frame),
    let own := fun (x : LineCalibration) => [x.valveId, x.valveId + 1, x.probeId, x.airId]
    (own c.lines.line1 ++ own c.lines.line2 ++ [c.pumpStopId]).Nodup →
    (f.extended = false → fieldOwner c f = none) ∧
    (f.extended = true → ∀ l,
      (fieldOwner c f = some (.probe l) ↔ f.ident = (c.lines.get l).probeId) ∧
      (fieldOwner c f = some (.air l) ↔ f.ident = (c.lines.get l).airId) ∧
      (fieldOwner c f = some (.valve l) ↔ f.ident = (c.lines.get l).valveId + 1))

/-- R25, R26, R160, R163, R175: a frame at a line's probe identifier is handed over and then looked up (in holdup only
handed over): a sample with status 0 and a value in range becomes the temperature; any other frame is one probe error
more. -/
def Obligations.ProbeFramesSetTemperature : Prop :=
  ∀ (l : LineId) (f : Frame) (s : State), Running s → s.forward.fieldOff = false → s.power.wakeDelay = none →
    inBlock s f = false → fieldOwner s.cal f = some (.probe l) →
    let onward := fun (q : State) => if s.power.holdup then q else forwardFrame .fieldToCab f q
    let result := exec (.fieldFrameArrival f) s
    let refused := result = .next (settle s (onward
      (s.modLine l fun x => { x with probeErrors := min 65535 (x.probeErrors + 1) })))
    (f.data.length < 3 → refused) ∧
    (∀ (st lo hi : Byte) (rest : List Byte), f.data = st :: lo :: hi :: rest →
      let raw : Int := lo.toNat + 256 * hi.toNat
      let v := if raw < 32768 then raw else raw - 65536
      ((st ≠ 0 ∨ v < -4000 ∨ 6000 < v) → refused) ∧
      (st = 0 → -4000 ≤ v → v ≤ 6000 →
        result = .next (settle s (onward
          (s.modLine l fun x => { x with temp := some { value := v, since := s.awake } })))))

/-- R90 and R91: what AIR_PRESENT, AIR_CLEAR and any other air frame do, by the line's state. The lookup that follows is
judged on the line states that the owner has left (entry 19). -/
def Obligations.AirFramesAct : Prop :=
  ∀ (l : LineId) (f : Frame) (s : State), Running s → s.forward.fieldOff = false → s.power.wakeDelay = none →
    inBlock s f = false → fieldOwner s.cal f = some (.air l) →
    let onward := fun (q : State) => if s.power.holdup then q else forwardFrame .fieldToCab f q
    let result := exec (.fieldFrameArrival f) s
    let present := s.modLine l fun x =>
      { x with airSilence := some (s.awake + 5000000), airSilent := false, airFlag := true, airClear := none }
    let seen := present.modCtx l fun d => { d with flags := { d.flags with airSeen := true } }
    let hold := fun (r : ResumeState) => enterState l .airHold (seen.modLine l fun x =>
      { x with resume := some r, airHold := some (s.awake + s.settings.airHold * 1000000) })
    (f.data = [] → result = .next (settle s (onward s))) ∧
    (∀ (b : Byte) (rest : List Byte), f.data = b :: rest →
      (b ≠ 1 → b ≠ 2 → result = .next (settle s (onward s))) ∧
      (b = 1 →
        (s.lineState l = .flowing → result = .next (settle s (onward (hold .flowing)))) ∧
        (s.lineState l = .slowdown → result = .next (settle s (onward (hold .slowdown)))) ∧
        (s.lineState l = .stopping →
          result = .next (settle s (onward (seen.modLine l fun x => { x with airInStop := true })))) ∧
        ((s.lineState l = .airHold ∨ s.lineState l = .paused ∨ s.lineState l = .finished ∨
            s.lineState l = .suspended ∨ s.lineState l = .interrupted) →
          result = .next (settle s (onward seen))) ∧
        ((s.lineState l = .idle ∨ s.lineState l = .armed ∨ s.lineState l = .closing) →
          result = .next (settle s (onward present)))) ∧
      (b = 2 → result = .next (settle s (onward (s.modLine l fun x =>
        { x with
          airSilence := some (s.awake + 5000000)
          airSilent := false
          airClear := if x.airFlag = true ∧ x.airClear = none then some (s.awake + 2000000) else x.airClear })))))

/-- R104, R105, R107, R108, R110, R111: what a valve status does, by the commanded stage, the confirmed item and the
escalated item. The lookup that follows is judged on the line states that the owner has left (entry 19). -/
def Obligations.ValveStatusActs : Prop :=
  ∀ (l : LineId) (f : Frame) (s : State), Running s → s.forward.fieldOff = false → s.power.wakeDelay = none →
    inBlock s f = false → fieldOwner s.cal f = some (.valve l) →
    let onward := fun (q : State) => if s.power.holdup then q else forwardFrame .fieldToCab f q
    let gives := fun (q : State) => exec (.fieldFrameArrival f) s = .next (settle s (onward q))
    let v := s.valve.get l
    (f.data = [] → gives s) ∧
    (∀ (b : Byte) (rest : List Byte), f.data = b :: rest →
      (3 < b.toNat → gives s) ∧
      (∀ p : Position, p.code = b.toNat →
        let w := s.modValve l fun x => { x with reported := some p }
        let confirm := completeStopping l (w.modValve l fun x =>
          { x with confirmed := true, confirmTimer := none, escalated := false, retryTimer := none })
        let confirms : Prop := match v.commanded with
          | .close => p = .closed
          | .openSlow => p = .slow
          | .openFull => p = .full
        (v.confirmed = false → confirms → gives confirm) ∧
        (v.confirmed = true → confirms → gives w) ∧
        (v.commanded = .close → v.confirmed = true → ¬confirms → gives (escalate l w)) ∧
        (v.commanded = .close → v.confirmed = false → p = .fault → v.escalated = false → gives (escalate l w)) ∧
        (v.commanded = .close → v.confirmed = false → p = .fault → v.escalated = true → gives w) ∧
        (v.commanded = .close → v.confirmed = false → (p = .slow ∨ p = .full) → gives w) ∧
        (v.commanded ≠ .close → p = .fault → (s.lineState l = .flowing ∨ s.lineState l = .slowdown) →
          gives (enterSuspended l [.valveFault] (w.modValve l fun x => { x with confirmTimer := none }))) ∧
        (v.commanded ≠ .close → v.confirmed = true → p ≠ .fault → ¬confirms →
          gives (w.modValve l fun x =>
            { x with sendCount := 2, confirmed := false, confirmTimer := some (s.awake + 500000),
                     slot := some v.commanded })) ∧
        (v.commanded ≠ .close → v.confirmed = false → p ≠ .fault → ¬confirms → gives w)))

/-! ### The time base and the step on an empty queue -/

/-- R185 and spec/00, 6.7: the time base reaches an instant and never goes back; what stands still in park is measured on
a time of its own (entry 5); the clock's count rises with each second of the time base and goes on from 0 after its
greatest value (the phase of its seconds: entry 24). The step on an empty queue is the model's (entry 3): the first event
of the list that is due is queued, in the model's order (entry 38), or a microsecond passes; without supply, nothing. -/
def Obligations.TimeBaseAndIdleStep : Prop :=
  (∀ (t u : Micros) (s : State),
    let a := advanceTo t s
    a = { s with now := a.now, awake := a.awake, clock := { count := a.clock.count, isSet := s.clock.isSet } } ∧
    a.now = max s.now t ∧
    (s.power.parked = true → a.awake = s.awake) ∧
    (s.power.parked = false → s.now ≤ t → a.awake = s.awake + (t - s.now)) ∧
    (s.clock.count ≤ 4294967295 →
      (a.now / 1000000 = s.now / 1000000 → a.clock.count = s.clock.count) ∧
      (a.now / 1000000 = s.now / 1000000 + 1 →
        a.clock.count = if s.clock.count = 4294967295 then 0 else s.clock.count + 1)) ∧
    advanceTo u a = advanceTo (max t u) s ∧
    (∀ l : LineId, s.power.on = true → exec (.temperatureAgeExpiry l t) s = .next (settle s a))) ∧
  (∀ s : State, s.pending = [] →
    let due := fun (timer : Timer) => ∃ d, timer = some d ∧ d ≤ s.awake
    let runs := s.power.parked = false
    let ofLine := fun (l : LineId) =>
      let p := s.pulse.get l
      let ln := s.line.get l
      let v := s.valve.get l
      [(runs ∧ p.timerStart + 2031616 ≤ s.awake ∧ (p.flow ≠ 0 ∨ p.periodStart = true), Instr.periodTimerOverflow l s.now),
       (runs ∧ ln.nextTick ≤ s.awake, .meteringTick l s.now),
       (runs ∧ due ln.noFlow ∧ (s.lineState l = .flowing ∨ s.lineState l = .slowdown), .noFlowTimerExpiry l s.now),
       (runs ∧ due ln.airClear, .airClearTimerExpiry l s.now),
       (runs ∧ due ln.airHold ∧ s.lineState l = .airHold, .airHoldTimerExpiry l s.now),
       (runs ∧ due ln.airSilence, .airSilenceExpiry l s.now),
       (runs ∧ due ln.report, .reportTimerExpiry l s.now),
       (runs ∧ due v.confirmTimer ∧ v.confirmed = false ∧ v.escalated = false, .confirmationTimerExpiry l s.now),
       (runs ∧ due v.retryTimer ∧ v.escalated = true, .retryTimerExpiry l s.now)]
    let portsRun := runs ∧ s.power.wakeDelay = none
    let fieldWaits := s.valve.line1.slot ≠ none ∨ s.valve.line2.slot ≠ none ∨ s.pumpSlot ≠ none ∨
      (s.power.holdup = false ∧ s.forward.toField ≠ [])
    let cabWaits := s.port.responses ≠ [] ∨ s.reports.device = true ∨ s.reports.lines.line1 = true ∨
      s.reports.lines.line2 = true ∨ (s.power.holdup = false ∧ s.forward.toCab ≠ [])
    let events : List (Prop × Instr) := ofLine .line1 ++ ofLine .line2 ++
      [((∃ c, s.lock.state = .unlocked c) ∧ (∃ d, s.lock.relock = some d ∧ d ≤ s.now), .relockTimerExpiry s.now),
       (due s.power.wakeDelay, .wakeDelayEnd s.now),
       (portsRun ∧ s.forward.txField = none ∧ s.forward.fieldOff = false ∧ fieldWaits, .fieldPortTake),
       (portsRun ∧ s.forward.txCab = none ∧ s.forward.cabOff = false ∧ cabWaits, .cabPortTake)]
    (s.power.on = false → step s = .next s) ∧
    (s.power.on = true → (∀ e ∈ events, ¬e.1) → step s = .next (advanceTo (s.now + 1) s)) ∧
    (∀ earlier e later, s.power.on = true → events = earlier ++ e :: later → (∀ x ∈ earlier, ¬x.1) → e.1 →
      step s = .next { s with pending := [e.2] }))

/-! ### Line commands -/

/-- R71 and R72: the checks of ARM, in their order; each refusal changes nothing but the port. R46, R62, R69, R72: an ARM
that passes every check opens a DELIVERY. -/
def Obligations.ArmChecksAndOpens : Prop :=
  (∀ (tag line order comp : Nat) (s : State), PortReady s →
    let refused := fun st => exec (.arm tag line order comp) s = .next (settle s (replied 0x10 tag st [] s))
    (line ≠ 1 → line ≠ 2 → refused .parameter) ∧
    (∀ l, lineNumber l = line →
      (s.lineState l ≠ .idle → refused .state) ∧
      (s.lineState l = .idle → (s.cal.lines.get l).k = 0 → refused .uncalibrated) ∧
      (s.lineState l = .idle → (s.cal.lines.get l).k ≠ 0 →
        (findOrder s.orders order = none → refused .notFound) ∧
        (∀ o, findOrder s.orders order = some o →
          (o.bound ≠ none → refused .state) ∧
          (o.bound = none → s.cal.products[o.product].defined = false → refused .parameter) ∧
          (o.bound = none → s.cal.products[o.product].defined = true →
            ((comp < 1 ∨ 6 < comp) → refused .parameter) ∧
            (∀ c : CompartmentNo, c.val + 1 = comp →
              let k := s.compartments[c]
              let busy := k.granted ≠ none ∧ k.granted ≠ some l
              (k.product ≠ some o.product → refused .productMismatch) ∧
              (k.product = some o.product → (s.line.get l).kept.hose ≠ .product o.product → refused .hoseProduct) ∧
              (k.product = some o.product → (s.line.get l).kept.hose = .product o.product →
                (busy → refused .compartmentBusy) ∧
                (¬busy → k.remaining ≤ k.reserve → refused .compartmentLow) ∧
                (¬busy → k.reserve < k.remaining → canReserve s.journal .delivery = false →
                  refused .journalFull)))))))) ∧
  (∀ (tag : Nat) (l : LineId) (o : Order) (c : CompartmentNo) (s : State), PortReady s →
    s.lineState l = .idle → (s.cal.lines.get l).k ≠ 0 → findOrder s.orders o.number = some o → o.bound = none →
    s.cal.products[o.product].defined = true → s.compartments[c].product = some o.product →
    (s.line.get l).kept.hose = .product o.product →
    (s.compartments[c].granted = none ∨ s.compartments[c].granted = some l) →
    s.compartments[c].reserve < s.compartments[c].remaining → canReserve s.journal .delivery = true →
    let kept := (s.line.get l).kept
    let d : Delivery :=
      { kind := .delivery, order := some o.number, customer := some o.customer, price := some o.price,
        preset := if o.preset = 0 then none else some o.preset, product := o.product, compartment := c,
        ticket := none, gross := 0, net := 0, billed := 0, unbilled := 0, reversePulses := 0, integrityErrors := 0,
        sumTG := 0, tempGross := 0, startTime := none, endTime := none, stopCause := none, stopTarget := none,
        faults := 0, flags := .clear, eventCount := s.cal.eventCount, unattendedBefore := kept.unattended }
    exec (.arm tag (lineNumber l) o.number (c.val + 1)) s = .next (settle s (replied 0x10 tag .ok []
      (enterState l .armed
        { s with
          orders := s.orders.map fun x => if x.number = o.number then { x with bound := some l } else x
          line := s.line.set l { s.line.get l with kept := { kept with ctx := some d, unattended := 0 } }
          compartments := s.compartments.set c { s.compartments[c] with granted := some l }
          journal := reserve (.line l) .delivery s.journal }))))

/-- R46, R52, R69, R73: ARM FLUSH, its checks in their order and the FLUSH that it opens. -/
def Obligations.ArmFlushChecksAndOpens : Prop :=
  ∀ (tag line comp : Nat) (s : State), PortReady s →
    let result := exec (.armFlush tag line comp) s
    let refused := fun st => result = .next (settle s (replied 0x11 tag st [] s))
    (line ≠ 1 → line ≠ 2 → refused .parameter) ∧
    (∀ l, lineNumber l = line →
      (s.lineState l ≠ .idle → refused .state) ∧
      (s.lineState l = .idle → (s.cal.lines.get l).k = 0 → refused .uncalibrated) ∧
      (s.lineState l = .idle → (s.cal.lines.get l).k ≠ 0 →
        ((comp < 1 ∨ 6 < comp) → refused .parameter) ∧
        (∀ c : CompartmentNo, c.val + 1 = comp →
          let k := s.compartments[c]
          let busy := k.granted ≠ none ∧ k.granted ≠ some l
          (k.product = none → refused .productMismatch) ∧
          (∀ p, k.product = some p →
            (s.cal.products[p].defined = false → refused .parameter) ∧
            (s.cal.products[p].defined = true →
              (busy → refused .compartmentBusy) ∧
              (¬busy → k.remaining ≤ k.reserve → refused .compartmentLow) ∧
              (¬busy → k.reserve < k.remaining → canReserve s.journal .flush = false → refused .journalFull) ∧
              (¬busy → k.reserve < k.remaining → canReserve s.journal .flush = true →
                let kept := (s.line.get l).kept
                let d : Delivery :=
                  { kind := .flush, order := none, customer := none, price := none, preset := none, product := p,
                    compartment := c, ticket := none, gross := 0, net := 0, billed := 0, unbilled := 0,
                    reversePulses := 0, integrityErrors := 0, sumTG := 0, tempGross := 0, startTime := none,
                    endTime := none, stopCause := none, stopTarget := none, faults := 0, flags := .clear,
                    eventCount := s.cal.eventCount, unattendedBefore := kept.unattended }
                result = .next (settle s (replied 0x11 tag .ok [] (enterState l .armed
                  { s with
                    line := s.line.set l { s.line.get l with kept := { kept with ctx := some d, unattended := 0 } }
                    compartments := s.compartments.set c { k with granted := some l }
                    journal := reserve (.line l) .flush s.journal })))))))))

/-- R48, R64, R74, R122: DISARM undoes the ARM; in every other state it is refused with STATE. -/
def Obligations.DisarmUndoesArm : Prop :=
  ∀ (tag : Nat) (l : LineId) (s : State), PortReady s →
    (s.lineState l ≠ .armed →
      exec (.disarm tag (lineNumber l)) s = .next (settle s (replied 0x12 tag .state [] s))) ∧
    (∀ d, s.lineState l = .armed → s.ctx l = some d →
      let kept := (s.line.get l).kept
      exec (.disarm tag (lineNumber l)) s = .next (settle s (replied 0x12 tag .ok [] (enterState l .idle
        { s with
          line := s.line.set l { s.line.get l with
            kept := { kept with ctx := none, unattended := kept.unattended + d.unattendedBefore } }
          compartments := s.compartments.set d.compartment { s.compartments[d.compartment] with granted := none }
          orders := s.orders.map fun x => if d.order = some x.number then { x with bound := none } else x
          journal := { s.journal with reservations := s.journal.reservations.filter fun r => r.holder ≠ .line l } }))))

/-- R71, R75 and R76: START and RESUME, with their checks in order, what they mark, and the state they enter; in every
other state, IDLE among them, they are refused with STATE. That an entry to AIR_HOLD leaves a running air-clear timer
running is the model's choice (entry 43). -/
def Obligations.StartAndResumeBeginFlow : Prop :=
  (∀ (tag : Nat) (l : LineId) (s : State), PortReady s →
    (s.lineState l ≠ .armed →
      exec (.start tag (lineNumber l)) s = .next (settle s (replied 0x13 tag .state [] s))) ∧
    (s.lineState l ≠ .paused → s.lineState l ≠ .interrupted →
      exec (.resume tag (lineNumber l)) s = .next (settle s (replied 0x15 tag .state [] s)))) ∧
  ∀ (tag : Nat) (l : LineId) (d : Delivery) (s : State), PortReady s → s.ctx l = some d →
    let k := s.compartments[d.compartment]
    let set := s.settings.lines.get l
    let airless := (s.line.get l).airFlag = false
    let slow := ∃ p, d.kind = .delivery ∧ d.preset = some p ∧ p - set.slowdown ≤ d.billed
    let reachedPreset :=
      (∃ p, d.kind = .delivery ∧ d.preset = some p ∧ max (p - set.closeAhead) (p / 2) ≤ d.billed) ∨
        50000000 ≤ d.billed
    let begins := fun (code : Nat) (i : Instr) (e : Delivery) =>
      let w := s.modCtx l fun _ => e
      let aired := (w.modCtx l fun x => { x with flags := { x.flags with airSeen := true } })
      let hold := fun r => enterState l .airHold (aired.modLine l fun x =>
        { x with resume := some r, airHold := some (s.awake + s.settings.airHold * 1000000) })
      let gives := fun q => exec i s = .next (settle s (replied code tag .ok [] q))
      (airless → slow → gives (enterState l .slowdown w)) ∧ (airless → ¬slow → gives (enterState l .flowing w)) ∧
        (¬airless → slow → gives (hold .slowdown)) ∧ (¬airless → ¬slow → gives (hold .flowing))
    let start : Instr := .start tag (lineNumber l)
    let resume : Instr := .resume tag (lineNumber l)
    let refused := fun (code : Nat) (i : Instr) st => exec i s = .next (settle s (replied code tag st [] s))
    let unlocked := d.flags.calUnlocked || decide (s.lock.state ≠ .locked)
    (s.lineState l = .armed → (s.line.get l).temp = none → refused 0x13 start .tempAbsent) ∧
    (s.lineState l = .armed → (s.line.get l).temp ≠ none → k.remaining ≤ k.reserve →
      refused 0x13 start .compartmentLow) ∧
    (s.lineState l = .armed → (s.line.get l).temp ≠ none → k.reserve < k.remaining →
      begins 0x13 start
        { d with
          startTime := if s.clock.isSet then some s.clock.count else none
          flags := { d.flags with
            clockUnset := d.flags.clockUnset || !s.clock.isSet
            calUnlocked := unlocked } }) ∧
    (s.lineState l = .interrupted →
      exec resume s = .next (settle s (replied 0x15 tag .ok [] (enterState l .paused s)))) ∧
    (s.lineState l = .paused → (s.line.get l).temp = none → refused 0x15 resume .tempAbsent) ∧
    (s.lineState l = .paused → (s.line.get l).temp ≠ none →
      (k.remaining ≤ k.reserve → refused 0x15 resume .compartmentLow) ∧
      (k.reserve < k.remaining → reachedPreset → refused 0x15 resume .presetReached) ∧
      (k.reserve < k.remaining → ¬reachedPreset →
        begins 0x15 resume
          { d with
            stopCause := none
            stopTarget := none
            flags := { d.flags with calUnlocked := unlocked } }))

/-- R77, R78, R79, R112: PAUSE, STOP and EMERGENCY STOP by the state of the line; they are taken with a
calibration-class command in flight as well (R181). -/
def Obligations.PauseStopAndEmergencyStop : Prop :=
  ∀ (tag : Nat) (l : LineId) (s : State), CabOpen s → s.port.pendingReset = none →
    s.port.responses.length + (if s.port.inFlight = none then 0 else 1) < 4 →
    let pauses := fun q => exec (.pause tag (lineNumber l)) s = .next (settle s (replied 0x14 tag .ok [] q))
    let stops := fun q => exec (.stop tag (lineNumber l)) s = .next (settle s (replied 0x16 tag .ok [] q))
    let moving := s.lineState l = .flowing ∨ s.lineState l = .slowdown ∨ s.lineState l = .airHold
    (moving → pauses (enterStopping l [.operatorPause] s) ∧ stops (enterStopping l [.operatorStop] s)) ∧
    (s.lineState l = .stopping →
      pauses (furtherCauses l [.operatorPause] s) ∧ stops (furtherCauses l [.operatorStop] s)) ∧
    (s.lineState l = .paused →
      stops (enterState l .finished (s.modCtx l fun d =>
        { d with faults := addFault d.faults .operatorStop, stopTarget := some .finished }))) ∧
    (¬moving → s.lineState l ≠ .stopping →
      exec (.pause tag (lineNumber l)) s = .next (settle s (replied 0x14 tag .state [] s))) ∧
    (¬moving → s.lineState l ≠ .stopping → s.lineState l ≠ .paused →
      exec (.stop tag (lineNumber l)) s = .next (settle s (replied 0x16 tag .state [] s))) ∧
    (let acts := fun (m : LineId) (q : State) =>
      if q.lineState m = .flowing ∨ q.lineState m = .slowdown ∨ q.lineState m = .airHold then
        enterStopping m [.emergencyStop] q
      else if q.lineState m = .stopping then furtherCauses m [.emergencyStop] q
      else q
     exec (.emergencyStop tag) s = .next (settle s (replied 0x18 tag .ok []
      { issueStage .line2 .close (issueStage .line1 .close (acts .line2 (acts .line1 s))) with
        pumpSlot := some { reason := .emergencyStop, line := none } })))

/-- R37, R38, R71, R80, R123, R125: END closes the delivery, numbers it and queues its record; in a state that does not
hold a stopped delivery, IDLE among them, it is refused with STATE. The amount is rounded half up, 0 for a billed volume
of 0 or less, and clamped. The bits of the response's mask count from 0 (entry 29), and a billed volume outside 32 bits
shows a free value (entry 12). -/
def Obligations.EndQueuesRecord : Prop :=
  (∀ (billed : Volume) (price : Nat),
    let mills : Int := billed * price
    (billed ≤ 0 → amountOf billed price = 0) ∧
    (∀ q : Nat, 0 < billed → 20000 * (q : Int) ≤ 2 * mills + 10000 → 2 * mills + 10000 < 20000 * ((q : Int) + 1) →
      amountOf billed price = min 4294967295 q)) ∧
  (∀ (tag : Nat) (l : LineId) (s : State), PortReady s →
    ¬(s.lineState l = .paused ∨ s.lineState l = .finished ∨ s.lineState l = .suspended ∨ s.lineState l = .interrupted) →
    exec (.endDelivery tag (lineNumber l)) s = .next (settle s (replied 0x17 tag .state [] s))) ∧
  ∀ (tag : Nat) (l : LineId) (d : Delivery) (s : State), PortReady s → s.ctx l = some d →
    let holding := s.lineState l = .paused ∨ s.lineState l = .finished ∨ s.lineState l = .suspended ∨
      s.lineState l = .interrupted
    let result := exec (.endDelivery tag (lineNumber l)) s
    let ticket := if d.kind = .delivery then some (s.journal.newestTicket + 1) else d.ticket
    let amount := if d.kind = .delivery then some (amountOf d.billed (d.price.getD 0)) else none
    let ended : Delivery :=
      { d with
        endTime := if s.clock.isSet then some s.clock.count else none
        ticket := ticket
        flags := { d.flags with clockUnset := d.flags.clockUnset || !s.clock.isSet } }
    let record : DeliveryRecord :=
      { ticket := ticket, line := l, order := d.order, customer := d.customer, product := d.product,
        compartment := d.compartment, startTime := d.startTime, endTime := ended.endTime, gross := d.gross,
        net := d.net, basis := s.cal.products[d.product].basis, billed := d.billed, unbilled := d.unbilled,
        average := if 0 < d.tempGross then some (divHalfAway d.sumTG d.tempGross) else none,
        price := d.price, amount := amount, preset := d.preset, stopCause := d.stopCause, faults := d.faults,
        flags := ended.flags, reversePulses := d.reversePulses, integrityErrors := d.integrityErrors,
        unattendedBefore := d.unattendedBefore, eventCount := d.eventCount }
    let sequence := s.journal.newestSeq + 1
    let optional := fun (o : Option Nat) => match o with
      | none => b4 0
      | some x => b4 x
    holding →
      result = .next (settle s (replied 0x17 tag .ok
        (b1 (ticket.isSome.toNat + 2 * amount.isSome.toNat) ++ optional ticket ++ b4 sequence ++ s4 d.billed
          ++ optional amount)
        (enterState l .closing
          { s.modCtx l (fun _ => ended) with
            journal := { s.journal with
              newestSeq := sequence
              newestTicket := if d.kind = .delivery then s.journal.newestTicket + 1 else s.journal.newestTicket
              reservations := s.journal.reservations.map fun r =>
                if r.holder = .line l then { r with sequence := some sequence } else r
              queue := s.journal.queue ++
                [{ holder := .line l, sequence := sequence, contents := .delivery record }] } })))

/-- R33, R36, R81, R187, R192: READ LINE STATUS and READ TOTALIZERS answer the line's values in every state and change
nothing but the port; another line number is refused with PARAMETER (R71). The bytes of the line status, with a context
and without one, and the frame that carries them. A temperature or preset outside its field, and a totalizer outside 64
bits, shows a free value (entry 12). The codes of the enumerations of R192, which every statement uses; that an EMPTY
product field of a response is coded 0 is the model's choice (R45; entry 49). -/
def Obligations.LineReadsAnswerValues : Prop :=
  ([LineState.idle, .armed, .flowing, .slowdown, .airHold, .stopping, .paused, .finished, .suspended, .interrupted,
    .closing].map LineState.code = List.range 11 ∧
    [StopCause.preset, .volumeLimit, .compartmentLow, .operatorStop, .operatorPause, .noFlow, .airTimeout, .pulserFault,
      .reverseFlow, .tempLost, .emergencyStop, .valveFault, .powerLoss].map StopCause.code = List.range 13 ∧
    [StopTarget.paused, .finished, .suspended].map StopTarget.code = List.range 3 ∧
    [Stage.close, .openSlow, .openFull].map Stage.code = List.range 3 ∧
    [Position.closed, .slow, .full, .fault].map Position.code = List.range 4 ∧
    [AgeClass.absent, .fresh, .held].map AgeClass.code = List.range 3 ∧
    [RecordKind.delivery, .flush, .calibration].map RecordKind.code = List.range 3 ∧
    [Basis.gross, .net].map Basis.code = List.range 2 ∧
    [PumpReason.emergencyStop, .valveFault, .powerLoss].map PumpReason.code = List.range 3 ∧
    [Direction.cabToField, .fieldToCab].map Direction.code = List.range 2 ∧
    [Action.pass, .drop, .passWhenFlowing].map Action.code = List.range 3 ∧
    [Gate.line1, .line2, .either].map Gate.code = List.range 3 ∧
    [DefaultAction.pass, .drop].map DefaultAction.code = List.range 2 ∧
    (CredentialKind.fleet.code = 1 ∧ CredentialKind.inspector.code = 2) ∧
    (LockState.opened.code = 0 ∧ LockState.locked.code = 1 ∧ ∀ c, (LockState.unlocked c).code = 2) ∧
    (HoseProduct.unknown.code = 0 ∧ (∀ p : ProductNo, (HoseProduct.product p).code = p.val + 1) ∧
      HoseProduct.mixed.code = 9) ∧
    (lineNumber .line1 = 1 ∧ lineNumber .line2 = 2 ∧ lineField none = 0 ∧ ∀ l, lineField (some l) = lineNumber l) ∧
    Flags.clear.code = 0 ∧
    (productField none = 0 ∧ ∀ p : ProductNo, productField (some p) = p.val + 1) ∧
    ∀ (f : Flags) (n : Nat), f.code.testBit n =
      [f.calUnlocked, f.tempHeld, f.tempAbsent, f.interrupted, f.clockUnset, f.airSeen, f.airUnmonitored, f.lateFlow,
        f.vcfClamped].getD n false) ∧
  ∀ (tag : Nat) (s : State), PortReady s →
    (∀ l : LineId,
      let k := (s.line.get l).kept
      let v := s.valve.get l
      let temp := (s.line.get l).temp
      let optional := fun (o : Option Nat) => match o with
        | none => b4 0
        | some n => b4 n
      let position := match v.reported with
        | none => b1 0xFF
        | some p => b1 p.code
      let temperature := match temp with
        | none => b2 0
        | some x => s2 x.value
      let age := match temp with
        | none => b1 0
        | some x => b1 (if s.awake - x.since ≤ 3000000 then 1 else 2)
      let flow := (s.pulse.get l).flow
      (k.ctx = none →
        lineStatusBytes s l = b1 k.state.code ++ b1 0xFF ++ b1 0xFF ++ b1 v.commanded.code ++ position ++ age
          ++ b1 (2 * temp.isSome.toNat) ++ b2 0 ++ temperature ++ b2 flow ++ b1 0 ++ b1 0 ++ b4 0 ++ b4 0 ++ b4 0 ++ b4 0
          ++ b4 0 ++ b4 0 ++ b4 0 ++ s4Clamped k.unattended) ∧
      (∀ d, k.ctx = some d →
        let amount := if d.kind = .delivery then some (amountOf d.billed (d.price.getD 0)) else none
        lineStatusBytes s l = b1 k.state.code
          ++ b1 (match d.stopCause with
            | none => 0xFF
            | some c => c.code)
          ++ b1 (match d.stopTarget with
            | none => 0xFF
            | some g => g.code)
          ++ b1 v.commanded.code ++ position ++ age
          ++ b1 (1 + 2 * temp.isSome.toNat + 4 * d.order.isSome.toNat + 8 * d.preset.isSome.toNat
            + 16 * amount.isSome.toNat)
          ++ b2 d.flags.code ++ temperature ++ b2 flow ++ b1 0 ++ b1 (d.compartment.val + 1) ++ s4Clamped d.gross
          ++ s4Clamped d.net ++ s4Clamped d.billed ++ s4Clamped d.unbilled ++ optional d.order
          ++ (match d.preset with
            | none => b4 0
            | some p => s4 p)
          ++ optional amount ++ s4Clamped k.unattended) ∧
      lineStatusFrame s l =
        { extended := true
          ident := 0x0B3C0000 + 16 * s.port.address + lineNumber l + 1
          fd := true
          brs := true
          data := lineStatusBytes s l ++ [0] } ∧
      exec (.readLineStatus tag (lineNumber l)) s = .next (settle s (replied 0x19 tag .ok
        (lineStatusBytes s l ++ b1 k.hose.code ++ s4 (s.settings.lines.get l).closeAhead) s)) ∧
      exec (.readTotalizers tag (lineNumber l)) s = .next (settle s (replied 0x1A tag .ok
        (s8 k.grossTotal ++ s8 k.netTotal ++ s8 k.grossRem ++ s8 k.netRem ++ b4 k.lifetimeErrors
          ++ b2 (s.line.get l).probeErrors ++ s4Clamped k.unattended) s))) ∧
    (∀ n, n ≠ 1 → n ≠ 2 →
      exec (.readLineStatus tag n) s = .next (settle s (replied 0x19 tag .parameter [] s)) ∧
      exec (.readTotalizers tag n) s = .next (settle s (replied 0x1A tag .parameter [] s)) ∧
      exec (.disarm tag n) s = .next (settle s (replied 0x12 tag .parameter [] s)) ∧
      exec (.start tag n) s = .next (settle s (replied 0x13 tag .parameter [] s)) ∧
      exec (.resume tag n) s = .next (settle s (replied 0x15 tag .parameter [] s)) ∧
      exec (.pause tag n) s = .next (settle s (replied 0x14 tag .parameter [] s)) ∧
      exec (.stop tag n) s = .next (settle s (replied 0x16 tag .parameter [] s)) ∧
      exec (.endDelivery tag n) s = .next (settle s (replied 0x17 tag .parameter [] s)))

/-! ### Orders, compartments and products -/

/-- R57, R59, R60, R61: LOAD ORDER, READ ORDER and REMOVE ORDER. The count of orders in their responses takes 1 byte
(entry 13). -/
def Obligations.OrderCommands : Prop :=
  ∀ (tag order product : Nat) (preset : Int) (price customer position : Nat) (s : State), PortReady s →
    let loads := exec (.loadOrder tag order product preset price customer) s
    let loadRefused := fun st => loads = .next (settle s (replied 0x20 tag st [] s))
    let fits := order ≠ 0 ∧ (∃ p : ProductNo, p.val + 1 = product ∧ s.cal.products[p].defined = true) ∧
      (preset = 0 ∨ (10000 ≤ preset ∧ preset ≤ 50000000)) ∧ price ≤ 99999
    let known := ∃ o ∈ s.orders, o.number = order
    (findOrder s.orders order = none ↔ ¬known) ∧
    (∀ o, findOrder s.orders order = some o → o ∈ s.orders ∧ o.number = order) ∧
    (¬fits → loadRefused .parameter) ∧
    (fits → known → loadRefused .duplicate) ∧
    (fits → ¬known → 16 ≤ s.orders.length → loadRefused .tableFull) ∧
    (∀ p : ProductNo, p.val + 1 = product → fits → ¬known → s.orders.length < 16 →
      loads = .next (settle s (replied 0x20 tag .ok (b1 s.orders.length ++ b1 (s.orders.length + 1))
        { s with
          orders := s.orders ++
            [{ number := order, product := p, preset := preset, price := price, customer := customer,
               bound := none }] }))) ∧
    (s.orders.length ≤ position →
      exec (.readOrder tag position) s =
        .next (settle s (replied 0x22 tag .notFound (b1 s.orders.length) s))) ∧
    (∀ o, s.orders[position]? = some o →
      exec (.readOrder tag position) s = .next (settle s (replied 0x22 tag .ok
        (b4 o.number ++ b1 (o.product.val + 1) ++ s4 o.preset ++ b4 o.price ++ b4 o.customer ++ yesNo o.bound.isSome
          ++ b1 (lineField o.bound) ++ b1 s.orders.length) s))) ∧
    (¬known → exec (.removeOrder tag order) s = .next (settle s (replied 0x21 tag .notFound [] s))) ∧
    (∀ o, findOrder s.orders order = some o →
      (o.bound ≠ none → exec (.removeOrder tag order) s = .next (settle s (replied 0x21 tag .state [] s))) ∧
      (o.bound = none →
        let rest := s.orders.filter fun x => x.number ≠ order
        exec (.removeOrder tag order) s =
          .next (settle s (replied 0x21 tag .ok (b1 rest.length) { s with orders := rest }))))

/-- R42, R44, R45: READ PRODUCT, READ COMPARTMENT and LOAD COMPARTMENT. The coefficients in the response of READ PRODUCT
take 8 bytes (entry 14), and a reserve takes 4 bytes, signed (entry 42). That EMPTY is coded 0 in the responses is the
model's choice: R192 gives that code for the parameter of LOAD COMPARTMENT alone (entry 49). So are the 1 and the 0 of a
defined and an undefined product (entry 50). -/
def Obligations.CompartmentAndProductCommands : Prop :=
  ∀ (tag comp product : Nat) (volume reserve : Int) (s : State), PortReady s →
    let data := fun (k : Compartment) =>
      b1 (match k.product with
        | none => 0
        | some p => p.val + 1) ++ s4Clamped k.remaining ++ s4 k.reserve ++ b1 (lineField k.granted)
    let loads := exec (.loadCompartment tag comp product volume reserve) s
    let loadRefused := fun st => loads = .next (settle s (replied 0x28 tag st [] s))
    ((comp < 1 ∨ 6 < comp) →
      loadRefused .parameter ∧
        exec (.readCompartment tag comp) s = .next (settle s (replied 0x29 tag .parameter [] s))) ∧
    ((product < 1 ∨ 8 < product) →
      exec (.readProduct tag product) s = .next (settle s (replied 0x2A tag .parameter [] s))) ∧
    (∀ p : ProductNo, p.val + 1 = product →
      let r := s.cal.products[p]
      exec (.readProduct tag product) s = .next (settle s (replied 0x2A tag .ok
        (yesNo r.defined ++ b8 r.alpha ++ b8 r.beta ++ s2 r.tref ++ b1 r.basis.code) s))) ∧
    (∀ c : CompartmentNo, c.val + 1 = comp →
      let k := s.compartments[c]
      let volumes := 0 ≤ volume ∧ volume ≤ 20000000 ∧ (product = 0 → volume = 0) ∧ 0 ≤ reserve ∧ reserve ≤ 1000000
      let named := product = 0 ∨ ∃ p : ProductNo, p.val + 1 = product ∧ s.cal.products[p].defined = true
      exec (.readCompartment tag comp) s = .next (settle s (replied 0x29 tag .ok (data k) s)) ∧
      (¬(named ∧ volumes) → loadRefused .parameter) ∧
      (named → volumes → k.granted ≠ none → loadRefused .state) ∧
      (∀ q : Option ProductNo, named → volumes → k.granted = none →
        product = (match q with
          | none => 0
          | some p => p.val + 1) →
        let loaded := { k with product := q, remaining := volume, reserve := reserve }
        loads = .next (settle s (replied 0x28 tag .ok (data loaded)
          { s with compartments := s.compartments.set c loaded }))))

/-! ### Journal -/

/-- R119, R120: when a reservation is granted, and the place it takes. R120 counts the DELIVERY reservations with no
ticket number yet; R123 assigns both numbers at END, so these are the ones with no sequence number (entry 31,
DEDUCED). -/
def Obligations.ReservationTakesAPlace : Prop :=
  ∀ (j : Journal) (h : Holder) (k : RecordKind),
    let unnumbered := (j.reservations.filter fun r => r.sequence = none).length
    let unticketed := (j.reservations.filter fun r => r.kind = .delivery ∧ r.sequence = none).length
    let used := j.records.length + j.reservations.length
    (canReserve j k = true ↔
      (used < 1024 ∨ ∃ r ∈ j.records, r.released = true) ∧ j.newestSeq + unnumbered + 1 ≤ 4294967295 ∧
        (k = .delivery → j.newestTicket + unticketed + 1 ≤ 4294967295)) ∧
    (reserve h k j).reservations = j.reservations ++ [{ holder := h, kind := k, sequence := none }] ∧
    (used < 1024 → (reserve h k j).records = j.records) ∧
    (1024 ≤ used → ∀ r, r ∈ (reserve h k j).records ↔
      r ∈ j.records ∧ ¬(r.released = true ∧ ∀ x ∈ j.records, x.released = true → r.sequence ≤ x.sequence)) ∧
    (reserve h k j).queue = j.queue ∧ (reserve h k j).newestSeq = j.newestSeq ∧
      (reserve h k j).newestWritten = j.newestWritten ∧ (reserve h k j).newestTicket = j.newestTicket

/-- R123, R124, R128, R129, R180, R192: READ RECORD answers NOT_FOUND, BUSY or the record in two parts, and a DAMAGED
record makes JOURNAL_DAMAGE active; a record is INTACT when the check value over its sequence number, kind and fields as
they stand in the store, a free value (entry 11), is the stored one; the mask and the fields of both shapes, as the write
built them, and as they stand after a failure of the storage medium (entry 34). The optional stop cause stands in the mask
(entry 16), whose bits count from 0 (entry 29); a volume outside its field shows a free value (entry 12); the bytes of a
calibration value that have no content are 0 (entry 45), and the 1 of a released record and of a band in use is the
model's (entry 50). -/
def Obligations.ReadRecordAnswers : Prop :=
  (∀ d : DeliveryRecord,
    let optional := fun (o : Option Nat) => match o with
      | none => b4 0
      | some x => b4 x
    recordMask (.delivery d) =
      d.ticket.isSome.toNat + 2 * d.order.isSome.toNat + 4 * d.customer.isSome.toNat + 8 * d.startTime.isSome.toNat
        + 16 * d.endTime.isSome.toNat + 32 * d.average.isSome.toNat + 64 * d.price.isSome.toNat
        + 128 * d.amount.isSome.toNat + 256 * d.preset.isSome.toNat + 512 * d.stopCause.isSome.toNat ∧
    recordFields1 (.delivery d) =
      optional d.ticket ++ b1 (lineNumber d.line) ++ optional d.order ++ optional d.customer ++ b1 (d.product.val + 1)
        ++ b1 (d.compartment.val + 1) ++ optional d.startTime ++ optional d.endTime ++ b1 d.basis.code ∧
    recordFields2 (.delivery d) =
      s4 d.gross ++ s4 d.net ++ s4 d.billed ++ s4 d.unbilled
        ++ (match d.average with
          | none => b2 0
          | some x => s2 x)
        ++ optional d.price ++ optional d.amount
        ++ (match d.preset with
          | none => b4 0
          | some x => s4 x)
        ++ b1 (match d.stopCause with
          | none => 0xFF
          | some x => x.code)
        ++ b2 d.faults.toNat ++ b2 d.flags.code ++ b4 d.reversePulses ++ b4 d.integrityErrors
        ++ s4 d.unattendedBefore ++ b4 d.eventCount) ∧
  (∀ c : CalibrationRecord,
    let codes : Nat × Nat × Nat := match c.item with
      | .item (.kFactor l) => (lineNumber l, 0, 0)
      | .item (.bandCount l) => (lineNumber l, 1, 0)
      | .item (.band l i) => (lineNumber l, 2, i.val)
      | .item (.integrityLimit l) => (lineNumber l, 3, 0)
      | .item (.reverseLimit l) => (lineNumber l, 4, 0)
      | .item (.hoseVolume l) => (lineNumber l, 5, 0)
      | .item (.valveId l) => (lineNumber l, 6, 0)
      | .item (.probeId l) => (lineNumber l, 7, 0)
      | .item (.airId l) => (lineNumber l, 8, 0)
      | .item .pumpStopId => (0, 9, 0)
      | .item (.defined p) => (17 + p.val, 10, 0)
      | .item (.alpha p) => (17 + p.val, 11, 0)
      | .item (.beta p) => (17 + p.val, 12, 0)
      | .item (.tref p) => (17 + p.val, 13, 0)
      | .item (.basis p) => (17 + p.val, 14, 0)
      | .credential .inspector => (0, 15, 0)
      | .credential .fleet => (0, 16, 0)
      | .lock => (0, 17, 0)
    let value := fun (v : CalValue) => match v with
      | .int x => s8 x
      | .band lower correction used => b2 lower ++ s4 correction ++ yesNo used ++ b1 0
      | .lock inspector fleet strict => b1 (inspector.toNat + 2 * fleet.toNat + 4 * strict.toNat) ++ List.replicate 7 0
    recordMask (.calibration c) = c.time.isSome.toNat ∧
    recordFields1 (.calibration c) =
      b4 c.newCount
        ++ (match c.time with
          | none => b4 0
          | some x => b4 x)
        ++ b1 codes.1 ++ b1 codes.2.1 ++ b1 codes.2.2
        ++ b1 (match c.credential with
          | none => 0
          | some k => k.code) ∧
    recordFields2 (.calibration c) = value c.oldValue ++ value c.newValue ∧
    ∀ v : CalValue, calValueBytes v = value v) ∧
  (∀ (k : RecordKind) (c : Contents),
    storedMask (.written c) = recordMask c ∧ storedFields1 k (.written c) = recordFields1 c ∧
      storedFields2 k (.written c) = recordFields2 c) ∧
  (∀ f : RawFields,
    let first := fun (n : Nat) => (List.range n).map fun i => f.first.extractLsb' (8 * i) 8
    let second := fun (n : Nat) => (List.range n).map fun i => f.second.extractLsb' (8 * i) 8
    storedMask (.changed f) = f.mask.toNat ∧
      (∀ k, k ≠ .calibration →
        storedFields1 k (.changed f) = first 24 ∧ storedFields2 k (.changed f) = second 51) ∧
      storedFields1 .calibration (.changed f) = first 12 ∧ storedFields2 .calibration (.changed f) = second 16) ∧
  (∀ (k : RecordKind) (f : StoredFields),
    storedBytes k f = b2 (storedMask f) ++ storedFields1 k f ++ storedFields2 k f) ∧
  ∀ (tag n : Nat) (s : State), PortReady s →
    let refused := fun st => exec (.readRecord tag n) s = .next (settle s (replied 0x30 tag st [] s))
    let reserved := ∃ r ∈ s.journal.reservations, r.sequence = some n
    ((n = 0 ∨ s.journal.newestSeq < n) → refused .notFound) ∧
    (n ≠ 0 → n ≤ s.journal.newestSeq → reserved → refused .busy) ∧
    (n ≠ 0 → n ≤ s.journal.newestSeq → ¬reserved → (∀ r ∈ s.journal.records, r.sequence ≠ n) → refused .notFound) ∧
    (∀ r ∈ s.journal.records, r.sequence = n → (∀ x ∈ s.journal.records, x.sequence = n → x = r) →
      findRecord s.journal n = some r) ∧
    (∀ r, n ≠ 0 → n ≤ s.journal.newestSeq → ¬reserved → findRecord s.journal n = some r →
      (s.port.responses.length = 3 → refused .busy) ∧
      (s.port.responses.length < 3 →
        let frame := fun (bytes : List Byte) =>
          ({ frame := responseFrame s.port.address 0x30 tag .ok bytes, performs := none } : Response)
        let intact := decide (r.check = Config.checkValue r.sequence r.kind (storedBytes r.kind r.contents))
        let part1 := b1 1 ++ b4 r.sequence ++ b1 r.kind.code ++ b1 (if intact then 0 else 1) ++ yesNo r.released
          ++ b2 (storedMask r.contents) ++ storedFields1 r.kind r.contents
        let part2 := b1 2 ++ b4 r.sequence ++ storedFields2 r.kind r.contents
        exec (.readRecord tag n) s = .next (settle s
          { s with
            journalDamage := s.journalDamage || !intact
            port := { s.port with
              responses := s.port.responses ++ [frame part1, frame part2]
              previous := some { code := 0x30, status := .answered .ok } } })))

/-- R131 and R132: RELEASE THROUGH and READ JOURNAL STATE. The widths of the counts are the model's (entry 13). -/
def Obligations.ReleaseAndJournalState : Prop :=
  ∀ (tag n : Nat) (s : State), PortReady s →
    let j := s.journal
    (j.newestWritten < n →
      exec (.releaseThrough tag n) s = .next (settle s (replied 0x31 tag .parameter [] s))) ∧
    (n ≤ j.newestWritten →
      exec (.releaseThrough tag n) s = .next (settle s (replied 0x31 tag .ok
        (b2 (j.records.filter fun r => r.released = false ∧ r.sequence ≤ n).length ++ b4 j.newestWritten)
        { s with
          journal := { j with
            records := j.records.map fun r => if r.sequence ≤ n then { r with released := true } else r } }))) ∧
    exec (.readJournalState tag) s = .next (settle s (replied 0x32 tag .ok
      (b2 1024 ++ b2 (1024 - (j.records.length + j.reservations.length)) ++ b2 j.records.length
        ++ b2 (j.records.filter fun r => r.released = false).length ++ b2 j.reservations.length ++ b1 j.queue.length
        ++ b4 j.newestSeq ++ b4 j.newestWritten ++ b4 j.newestTicket) s))

/-- R100, R127, R141, R148, R156, R157: the completion of the write in progress, for a line, an item, a credential and the
lock, with what a K-factor and a valve identifier bring (R114). R117, R126, R127: a line's record takes the kind of its
reservation, a calibration write's is CALIBRATION, and a record is stored with the check value over its fields, a free
value (entry 11). R128: a failure of the storage medium leaves the record of its sequence number with the fields and the
stored check value that it carries, and with the directory entry as it was (entry 34); a later read finds by them whether
it is DAMAGED, and a record of the same bytes as before, where it was INTACT, is so exactly with the same stored check
value. -/
def Obligations.WriteCompletionsAndDamage : Prop :=
  (∀ (l : LineId) (w : JournalWrite) (rest : List JournalWrite) (d : Delivery) (s : State),
    s.power.on = true → s.power.releaseWaiting = false → s.journal.queue = w :: rest → w.holder = .line l →
    s.ctx l = some d →
    let j := completeWrite w rest s.journal
    let kept := (s.line.get l).kept
    let hose :=
      if d.kind = .delivery then kept.hose
      else if (s.cal.lines.get l).hoseVolume ≤ d.gross then .product d.product else .mixed
    exec .writeCompletion s = .next (settle s (enterState l .idle
      { s with
        journal := j
        compartments := s.compartments.set d.compartment { s.compartments[d.compartment] with granted := none }
        orders := s.orders.filter fun x => d.order ≠ some x.number
        line := s.line.set l { s.line.get l with kept := { kept with hose := hose, ctx := none } } }))) ∧
  (∀ (w : JournalWrite) (rest : List JournalWrite) (r : CalibrationRecord) (i : InFlight) (s : State),
    s.power.on = true → s.power.releaseWaiting = false → s.journal.queue = w :: rest → w.holder = .calibration →
    w.contents = .calibration r → s.port.inFlight = some i →
    ∃ t, exec .writeCompletion s = .next t ∧ t.journal = completeWrite w rest s.journal ∧
      t.cal.eventCount = r.newCount ∧ t.port.inFlight = none ∧
      t.port.responses = s.port.responses ++
        [{ frame := responseFrame s.port.address i.code i.tag .ok (b4 r.newCount ++ b4 w.sequence),
           performs := performsOf i.code .ok }] ∧
      (∀ c, s.lock.state = .unlocked c → t.lock.relock = some (s.now + 900000000)) ∧
      (∀ sel, r.item = .item sel →
        t.cal = { setItem s.cal sel r.newValue with eventCount := r.newCount } ∧ t.lock.inspector = s.lock.inspector ∧
          t.lock.fleet = s.lock.fleet ∧ t.lock.strict = s.lock.strict ∧
          ∀ l,
            (t.line.get l).kept =
              (if sel = .kFactor l then { (s.line.get l).kept with grossRem := 0, netRem := 0 }
               else (s.line.get l).kept) ∧
            t.valve.get l =
              (if sel = .valveId l then
                { commanded := .close, sendCount := 1, confirmed := false, confirmTimer := some (s.awake + 500000),
                  escalated := false, retryTimer := none, reported := none, slot := some .close }
               else s.valve.get l)) ∧
      (∀ which value, r.item = .credential which → s.lock.staged = some { which := which, value := value } →
        t.cal = { s.cal with eventCount := r.newCount } ∧ t.lock.state = s.lock.state ∧ t.lock.staged = none ∧
          (which = .inspector →
            t.lock.inspector = some value ∧ t.lock.fleet = s.lock.fleet ∧
              ∀ set1 set2 strict, r.newValue = .lock set1 set2 strict → t.lock.strict = strict) ∧
          (which = .fleet →
            t.lock.fleet = some value ∧ t.lock.inspector = s.lock.inspector ∧ t.lock.strict = s.lock.strict)) ∧
      (r.item = .lock →
        t.cal = { s.cal with eventCount := r.newCount } ∧ t.lock.state = s.lock.state ∧ t.lock.staged = none ∧
          t.lock.inspector = none ∧ t.lock.fleet = none ∧ t.lock.strict = false)) ∧
  (∀ (w : JournalWrite) (rest : List JournalWrite) (j : Journal),
    (completeWrite w rest j).queue = rest ∧
    (completeWrite w rest j).newestWritten = max j.newestWritten w.sequence ∧
    (completeWrite w rest j).newestSeq = j.newestSeq ∧ (completeWrite w rest j).newestTicket = j.newestTicket ∧
    (completeWrite w rest j).reservations = (j.reservations.filter fun r => r.holder ≠ w.holder) ∧
    (∀ k : RecordKind,
      (match w.contents with
        | .calibration _ => k = .calibration
        | .delivery _ => ∃ r, j.reservations.find? (fun r => decide (r.holder = w.holder)) = some r ∧ k = r.kind) →
      (completeWrite w rest j).records = j.records ++
        [{ sequence := w.sequence, kind := k, released := false, contents := .written w.contents,
           check := Config.checkValue w.sequence k (storedBytes k (.written w.contents)) }])) ∧
  (∀ (n : Nat) (left : StoredContents) (s : State),
    exec (.storageMediumFailure n left) s = .next
      { s with
        journal := { s.journal with
          records := s.journal.records.map fun r =>
            if r.sequence = n then
              { sequence := r.sequence, kind := r.kind, released := r.released, contents := .changed left.fields,
                check := left.check }
            else r } }) ∧
  (∀ (n : Nat) (left : StoredContents) (r : JournalRecord), r.sequence = n →
    let d := damageRecord n left r
    (d.intact = true ↔ left.check = Config.checkValue n r.kind (storedBytes r.kind (.changed left.fields))) ∧
    (storedBytes r.kind (.changed left.fields) = storedBytes r.kind r.contents → r.intact = true →
      (d.intact = true ↔ left.check = r.check)))

/-! ### Calibration and lock -/

/-- R138, R143 and R144: the calibration is read in every lock state: the selectors that fit, of a band index read for
BAND alone, the value of each item, and whether the record of a product item is defined. The absent unlocking credential
reads 0xFF (entry 15), the attempts remaining take 1 byte (entry 13), and the bytes of a band value that have no content
are 0 (entry 45). The 1 of yes and the 0 of no, in the value of DEFINED, of a band in use and of the credentials and
frozen, are the model's (entry 50). -/
def Obligations.CalibrationReadsAnswer : Prop :=
  ∀ (tag scope kind band : Nat) (s : State), PortReady s →
    exec (.readCalibrationIdentity tag) s = .next (settle s (replied 0x40 tag .ok
      (b4 s.cal.eventCount ++ b1 s.lock.state.code
        ++ (match s.lock.state with
          | .unlocked c => b1 c.code
          | _ => b1 0xFF)
        ++ yesNo s.lock.strict ++ yesNo s.lock.inspector.isSome ++ yesNo s.lock.fleet.isSome ++ yesNo s.lock.frozen
        ++ b1 s.lock.attempts) s)) ∧
    (selectorOf scope kind band = none →
      exec (.readCalibrationItem tag scope kind band) s = .next (settle s (replied 0x41 tag .parameter [] s))) ∧
    (∀ sel, selectorOf scope kind band = some sel →
      exec (.readCalibrationItem tag scope kind band) s = .next (settle s (replied 0x41 tag .ok
        (calValueBytes (itemValue s.cal sel) ++ definedData s.cal sel) s))) ∧
    (∀ sel : ItemSel,
      selectorOf (selectorCodes sel).1 (selectorCodes sel).2.1 (selectorCodes sel).2.2 = some sel) ∧
    (selectorOf scope kind band = none ↔
      ¬((scope = 0 ∧ kind = 9) ∨ ((scope = 1 ∨ scope = 2) ∧ kind ≤ 8 ∧ (kind = 2 → band ≤ 5)) ∨
        (17 ≤ scope ∧ scope ≤ 24 ∧ 10 ≤ kind ∧ kind ≤ 14))) ∧
    selectorOf 0 9 band = some .pumpStopId ∧
    (∀ l : LineId,
      let item := selectorOf (lineNumber l)
      item 0 band = some (.kFactor l) ∧ item 1 band = some (.bandCount l) ∧
        (∀ i : Fin 6, item 2 i.val = some (.band l i)) ∧ item 3 band = some (.integrityLimit l) ∧
        item 4 band = some (.reverseLimit l) ∧ item 5 band = some (.hoseVolume l) ∧ item 6 band = some (.valveId l) ∧
        item 7 band = some (.probeId l) ∧ item 8 band = some (.airId l)) ∧
    (∀ p : ProductNo,
      let item := fun k => selectorOf (17 + p.val) k band
      item 10 = some (.defined p) ∧ item 11 = some (.alpha p) ∧ item 12 = some (.beta p) ∧ item 13 = some (.tref p) ∧
        item 14 = some (.basis p)) ∧
    (∀ l : LineId,
      let c := s.cal.lines.get l
      let reads := fun sel (v : CalValue) => itemValue s.cal sel = v ∧ definedData s.cal sel = []
      reads (.kFactor l) (.int c.k) ∧ reads (.bandCount l) (.int c.bands.length) ∧
        (∀ (i : Fin 6) (b : Band), c.bands[i.val]? = some b → reads (.band l i) (.band b.lower b.correction true)) ∧
        (∀ i : Fin 6, c.bands.length ≤ i.val → reads (.band l i) (.band 0 0 false)) ∧
        reads (.integrityLimit l) (.int c.integrityLimit) ∧ reads (.reverseLimit l) (.int c.reverseLimit) ∧
        reads (.hoseVolume l) (.int c.hoseVolume) ∧ reads (.valveId l) (.int c.valveId) ∧
        reads (.probeId l) (.int c.probeId) ∧ reads (.airId l) (.int c.airId)) ∧
    (itemValue s.cal .pumpStopId = .int s.cal.pumpStopId ∧ definedData s.cal .pumpStopId = []) ∧
    ∀ p : ProductNo,
      let r := s.cal.products[p]
      let reads := fun sel (v : Int) => itemValue s.cal sel = .int v ∧ definedData s.cal sel = yesNo r.defined
      reads (.defined p) (if r.defined then 1 else 0) ∧ reads (.alpha p) r.alpha ∧ reads (.beta p) r.beta ∧
        reads (.tref p) r.tref ∧ reads (.basis p) (if r.basis = .gross then 0 else 1)

/-- R125, R145 and R146: the checks of WRITE CALIBRATION ITEM in their order, and its acceptance, with the number and the
place in the queue that the journal gives the record. That bytes 6 and 7 of a carried band value have no effect is the
model's choice (entry 46), and so are the two values that DEFINED admits (entry 50). -/
def Obligations.WriteCalibrationItemChecks : Prop :=
  ∀ (tag quoted scope kind band : Nat) (value : BitVec 64) (s : State), PortReady s →
    let result := exec (.writeCalibrationItem tag quoted scope kind band value) s
    let refused := fun st => result = .next (settle s (replied 0x42 tag st (b4 s.cal.eventCount) s))
    let fresh := s.port.previous = some { code := 0x40, status := .answered .ok } ∧ quoted = s.cal.eventCount
    let idle := s.lineState .line1 = .idle ∧ s.lineState .line2 = .idle
    (s.lock.frozen = true → refused .frozen) ∧
    (s.lock.frozen = false →
      (s.lock.state = .locked → refused .locked) ∧
      (s.lock.state ≠ .locked →
        (¬fresh → refused .stale) ∧
        (fresh → ¬idle → refused .state) ∧
        (fresh → idle →
          (selectorOf scope kind band = none → refused .parameter) ∧
          (∀ sel, selectorOf scope kind band = some sel →
            let new : CalValue := match sel with
              | .band _ _ => .band (value.extractLsb' 0 16).toNat (value.extractLsb' 16 32).toInt true
              | _ => .int value.toInt
            (itemFits s.cal sel new = false → refused .parameter) ∧
            (itemFits s.cal sel new = true → canReserve s.journal .calibration = false → refused .journalFull) ∧
            (itemFits s.cal sel new = true → canReserve s.journal .calibration = true →
              let record : CalibrationRecord :=
                { newCount := s.cal.eventCount + 1
                  time := if s.clock.isSet then some s.clock.count else none
                  item := .item sel
                  oldValue := itemValue s.cal sel
                  newValue := new
                  credential := (match s.lock.state with
                    | .unlocked who => some who
                    | _ => none) }
              let j := reserve .calibration .calibration s.journal
              let sequence := s.journal.newestSeq + 1
              result = .next (settle s (inFlightOf 0x42 tag
                { s with
                  journal := { j with
                    newestSeq := sequence
                    reservations := j.reservations.map fun r =>
                      if r.holder = .calibration then { r with sequence := some sequence } else r
                    queue := s.journal.queue ++
                      [{ holder := .calibration, sequence := sequence, contents := .calibration record }] }
                  lock := { s.lock with
                    relock := if s.lock.state = .opened then s.lock.relock else some (s.now + 900000000) } })))))))

/-- R22, R40, R138, R139, R140: which values the checks of a calibration write accept, for each item; an accepted value
keeps every item in its range, the band table in order and the nine identifiers distinct; the factory set is lawful. R140,
R141: the item reads the accepted value after the change, every other item reads as before, but for the used count that an
appended band raises and the bands that a new used count cuts off, and the event count stays. That the values of DEFINED
are 1 for yes and 0 for no, and that every other one is refused, is the model's choice (entry 50). -/
def Obligations.AcceptedValuesKeepCalibrationLawful : Prop :=
  Calibration.factory.lawful ∧
    (∀ (c : Calibration) (sel : ItemSel) (v : CalValue), c.lawful → itemFits c sel v = true →
      (setItem c sel v).lawful) ∧
    (∀ (c : Calibration) (sel : ItemSel) (v : CalValue),
      let identifier := fun (x : Int) =>
        let w := setItem c sel v
        let a := w.lines.line1
        let b := w.lines.line2
        0 ≤ x ∧ x ≤ 0x1FFFFFFF ∧ ¬(0x0B3C0000 ≤ x ∧ x ≤ 0x0B3C03FF) ∧
          [a.valveId, a.valveId + 1, a.probeId, a.airId, b.valveId, b.valveId + 1, b.probeId, b.airId,
            w.pumpStopId].Nodup
      itemFits c sel v = true ↔
        (match sel, v with
          | .kFactor _, .int x => x = 0 ∨ (10 ≤ x ∧ x ≤ 2000)
          | .bandCount l, .int x => 1 ≤ x ∧ x ≤ 6 ∧ x ≤ (c.lines.get l).bands.length
          | .band l i, .band lower correction _ =>
            let bands := (c.lines.get l).bands
            i.val ≤ bands.length ∧ ¬(i.val = bands.length ∧ bands.length = 6) ∧
              -50000 ≤ correction ∧ correction ≤ 50000 ∧ lower ≤ 65535 ∧ (i.val = 0 → lower = 0) ∧
              (∀ b, 0 < i.val → bands[i.val - 1]? = some b → b.lower < lower) ∧
              (∀ b, bands[i.val + 1]? = some b → lower < b.lower)
          | .integrityLimit _, .int x => 1 ≤ x ∧ x ≤ 64
          | .reverseLimit _, .int x => 0 ≤ x ∧ x ≤ 5000
          | .hoseVolume _, .int x => 0 ≤ x ∧ x ≤ 200000
          | .valveId _, .int x =>
            identifier x ∧ x ≠ 0x1FFFFFFF ∧ ¬(0x0B3C0000 ≤ x + 1 ∧ x + 1 ≤ 0x0B3C03FF)
          | .probeId _, .int x => identifier x
          | .airId _, .int x => identifier x
          | .pumpStopId, .int x => identifier x
          | .defined _, .int x => x = 0 ∨ x = 1
          | .alpha _, .int x => 0 ≤ x ∧ x ≤ 2000
          | .beta _, .int x => 0 ≤ x ∧ x ≤ 5000
          | .tref _, .int x => -1000 ≤ x ∧ x ≤ 3000
          | .basis _, .int x => x = 0 ∨ x = 1
          | _, _ => False)) ∧
    ∀ (c : Calibration) (sel : ItemSel) (v : CalValue), itemFits c sel v = true →
      let w := setItem c sel v
      w.eventCount = c.eventCount ∧
        itemValue w sel =
          (match v with
            | .band lower correction _ => .band lower correction true
            | x => x) ∧
        ∀ other, other ≠ sel → itemValue w other =
          (match sel, v, other with
            | .band l i, _, .bandCount m =>
              if l = m then .int (max (c.lines.get l).bands.length (i.val + 1) : Nat) else itemValue c other
            | .bandCount l, .int x, .band m i => if l = m ∧ x ≤ i.val then .band 0 0 false else itemValue c other
            | _, _, _ => itemValue c other)

/-- R125, R156 and R157: the checks of SET CREDENTIAL and REMOVE LOCK in their order, and their acceptance: the record of
the change is numbered and queued, and the credential staged. -/
def Obligations.CredentialCommandsChecks : Prop :=
  ∀ (tag kind level : Nat) (value : BitVec 128) (s : State), PortReady s →
    let sets := exec (.setCredential tag kind value level) s
    let removes := exec (.removeLock tag) s
    let setRefused := fun st => sets = .next (settle s (replied 0x45 tag st [] s))
    let removeRefused := fun st => removes = .next (settle s (replied 0x46 tag st [] s))
    let lk := s.lock
    let record := fun (item : RecordItem) (new : CalValue) =>
      ({ newCount := s.cal.eventCount + 1, time := if s.clock.isSet then some s.clock.count else none, item := item,
         oldValue := .lock lk.inspector.isSome lk.fleet.isSome lk.strict, newValue := new,
         credential := (match lk.state with
           | .unlocked who => some who
           | _ => none) } : CalibrationRecord)
    let j := reserve .calibration .calibration s.journal
    let sequence := s.journal.newestSeq + 1
    let queued := fun (item : RecordItem) (new : CalValue) =>
      { j with
        newestSeq := sequence
        reservations := j.reservations.map fun r =>
          if r.holder = .calibration then { r with sequence := some sequence } else r
        queue := s.journal.queue ++
          [{ holder := .calibration, sequence := sequence, contents := .calibration (record item new) }] }
    let relock := if lk.state = .opened then lk.relock else some (s.now + 900000000)
    let accepted := fun (w : CredentialKind) (new : CalValue) =>
      sets = .next (settle s (inFlightOf 0x45 tag
        { s with
          journal := queued (.credential w) new
          lock := { lk with relock := relock, staged := some { which := w, value := value } } }))
    let room := canReserve s.journal .calibration = true
    (lk.frozen = true → setRefused .frozen ∧ removeRefused .frozen) ∧
    (lk.frozen = false → lk.attempts = 0 → setRefused .lockout ∧ removeRefused .lockout) ∧
    (lk.frozen = false → lk.attempts ≠ 0 →
      (lk.state = .locked → setRefused .locked) ∧
      (lk.state = .unlocked .fleet → kind = 2 → setRefused .locked) ∧
      (lk.state ≠ .locked → kind ≠ 1 → kind ≠ 2 → setRefused .parameter) ∧
      (lk.state ≠ .locked → lk.state ≠ .unlocked .fleet → kind = 2 →
        (1 < level → setRefused .parameter) ∧
        (level ≤ 1 → ¬room → setRefused .journalFull) ∧
        (level ≤ 1 → room → accepted .inspector (.lock true lk.fleet.isSome (decide (level = 1))))) ∧
      (lk.state ≠ .locked → kind = 1 →
        (¬room → setRefused .journalFull) ∧
        (room → accepted .fleet (.lock lk.inspector.isSome true lk.strict))) ∧
      (lk.state ≠ .unlocked .inspector → removeRefused .locked) ∧
      (lk.state = .unlocked .inspector → ¬room → removeRefused .journalFull) ∧
      (lk.state = .unlocked .inspector → room →
        removes = .next (settle s (inFlightOf 0x46 tag
          { s with
            journal := queued .lock (.lock false false false)
            lock := { lk with relock := relock } }))))

/-- R152, R154, R155, R158: UNLOCK with its checks in order, LOCK, FREEZE and the relock expiry, which runs in park; the
expiry of a relock timer that is stopped or not yet due, or outside UNLOCKED, does not happen, and lets time pass alone
(entry 4). The attempts remaining take 1 byte in the response (entry 13). -/
def Obligations.LockCommandsAndRelock : Prop :=
  (∀ (tag kind : Nat) (value : BitVec 128) (s : State), PortReady s →
    let lk := s.lock
    let unlocks := fun (st : Status) (new : Lock) =>
      exec (.unlock tag kind value) s = .next (settle s
        (replied 0x43 tag st (b1 new.state.code ++ b1 new.attempts) { s with lock := new }))
    let held := fun (w : CredentialKind) => match w with
      | .inspector => lk.inspector
      | .fleet => lk.fleet
    let locks := exec (.lock tag) s
    (lk.frozen = true → unlocks .frozen lk) ∧
    (lk.frozen = false → lk.attempts = 0 → unlocks .lockout lk) ∧
    (lk.frozen = false → lk.attempts ≠ 0 →
      (kind ≠ 1 → kind ≠ 2 → unlocks .parameter lk) ∧
      (∀ w : CredentialKind, w.code = kind →
        (lk.state ≠ .locked → unlocks .ok lk) ∧
        (lk.state = .locked →
          (w = .fleet → lk.strict = true → unlocks .level lk) ∧
          ((w = .inspector ∨ lk.strict = false) → held w ≠ some value →
            unlocks .badCredential { lk with attempts := lk.attempts - 1 }) ∧
          ((w = .inspector ∨ lk.strict = false) → held w = some value →
            unlocks .ok { lk with state := .unlocked w, relock := some (s.now + 900000000) })))) ∧
    (lk.state = .opened → locks = .next (settle s (replied 0x44 tag .state [] s))) ∧
    (lk.state = .locked → locks = .next (settle s (replied 0x44 tag .ok [] s))) ∧
    (∀ c, lk.state = .unlocked c →
      locks = .next (settle s (replied 0x44 tag .ok [] { s with lock := { lk with state := .locked, relock := none } }))) ∧
    exec (.freeze tag) s = .next (settle s (replied 0x47 tag .ok [] { s with lock := { lk with frozen := true } }))) ∧
  (∀ (t x : Micros) (c : CredentialKind) (s : State), s.power.on = true → s.lock.state = .unlocked c →
    s.lock.relock = some x → x ≤ (advanceTo t s).now →
    exec (.relockTimerExpiry t) s = .next (settle s
      { advanceTo t s with lock := { s.lock with state := .locked, relock := none } })) ∧
  (∀ (t : Micros) (s : State), s.power.on = true →
    ((∀ c, s.lock.state ≠ .unlocked c) ∨ ∀ x, s.lock.relock = some x → (advanceTo t s).now < x) →
    exec (.relockTimerExpiry t) s = .next (settle s (advanceTo t s)))

/-! ### Forwarding -/

/-- R165, R166, R167, R173: the commands of the pass table and of the counters. The order of the ten counters is the
model's (entry 17), and so is the coding of in use and persist, 1 for yes and 0 for no (entry 50). -/
def Obligations.PassTableCommands : Prop :=
  ∀ (tag index direction matchValue mask action gate persist : Nat) (s : State), PortReady s →
    let writes := exec (.writePassEntry tag index direction matchValue mask action gate persist) s
    let fields := fun (e : PassEntry) =>
      yesNo e.inUse ++ b1 e.direction.code ++ b4 e.matchValue ++ b4 e.mask ++ b1 e.action.code ++ b1 e.gate.code
        ++ yesNo e.persist
    let counts := fun (c : Counters) =>
      b2 c.forwarded ++ b2 c.fullDrop ++ b2 c.tableDrop ++ b2 c.gatedDrop ++ b2 c.protectedDrop
    let zero : Counters := { forwarded := 0, fullDrop := 0, tableDrop := 0, gatedDrop := 0, protectedDrop := 0 }
    let cleared : PassEntry :=
      { inUse := false, direction := .cabToField, matchValue := 0, mask := 0, action := .drop, gate := .either,
        persist := false }
    let fits := direction ≤ 1 ∧ matchValue ≤ 0x1FFFFFFF ∧ mask ≤ 0x1FFFFFFF ∧ action ≤ 2 ∧ gate ≤ 2 ∧ persist ≤ 1
    (¬(index < 24 ∧ fits) → writes = .next (settle s (replied 0x50 tag .parameter [] s))) ∧
    (24 ≤ index →
      exec (.deletePassEntry tag index) s = .next (settle s (replied 0x51 tag .parameter [] s)) ∧
      exec (.readPassEntry tag index) s = .next (settle s (replied 0x52 tag .parameter [] s))) ∧
    (∀ i : Fin 24, i.val = index →
      (∀ e : PassEntry, e.inUse = true → e.direction.code = direction → e.matchValue = matchValue → e.mask = mask →
        e.action.code = action → e.gate.code = gate → e.persist.toNat = persist → fits →
        writes = .next (settle s (replied 0x50 tag .ok (fields e)
          { s with
            forward := { s.forward with
              effect := s.forward.effect.set i e
              stored := if e.persist then s.forward.stored.set i e else s.forward.stored } }))) ∧
      exec (.deletePassEntry tag index) s = .next (settle s (replied 0x51 tag .ok []
        { s with
          forward := { s.forward with
            effect := s.forward.effect.set i cleared
            stored := s.forward.stored.set i cleared } })) ∧
      exec (.readPassEntry tag index) s = .next (settle s (replied 0x52 tag .ok
        (fields s.forward.effect[i] ++ yesNo s.forward.stored[i].inUse) s))) ∧
    exec (.readForwardingCounters tag) s = .next (settle s (replied 0x53 tag .ok
      (counts s.forward.countToField ++ counts s.forward.countToCab) s)) ∧
    exec (.clearForwardingCounters tag) s = .next (settle s (replied 0x54 tag .ok []
      { s with forward := { s.forward with countToField := zero, countToCab := zero } }))

/-- R160, R161, R162, R164: frames that are dropped on arrival, and frames that go on to the lookup; the identifier block
of the part, and the protected set: the valve identifiers, each with its next one, the probe and air identifiers of both
lines, and the pump-stop identifier. R175, R195, R199: in holdup a cab frame is discarded whatever its identifier, and
does not replace the previous command frame, and a field frame that has no owner is neither looked up nor counted, also in
the part's block (entry 18); in park field frames, and in the wake delay frames of both links, are lost. -/
def Obligations.ArrivalsAreDroppedOrLookedUp : Prop :=
  ∀ (f : Frame) (s : State), s.power.on = true →
    let start := 0x0B3C0000 + 16 * s.port.address
    let inside := f.extended = true ∧ start ≤ f.ident ∧ f.ident ≤ start + 15
    let ids := fun (c : LineCalibration) => [c.valveId, c.valveId + 1, c.probeId, c.airId]
    let nine := ids s.cal.lines.line1 ++ ids s.cal.lines.line2 ++ [s.cal.pumpStopId]
    let shielded := f.extended = true ∧ f.ident ∈ nine
    let cab := exec (.cabFrameArrival f) s
    let field := exec (.fieldFrameArrival f) s
    let lost := Host.Outcome.next (settle s s)
    let protectedDrops := fun (c : Counters) => { c with protectedDrop := min 65535 (c.protectedDrop + 1) }
    blockStart s.port.address = start ∧ (inBlock s f = true ↔ inside) ∧ protectedSet s.cal = nine ∧
    (s.power.parked = true → field = lost) ∧
    (s.power.parked = false → s.power.wakeDelay ≠ none → cab = lost ∧ field = lost) ∧
    (s.power.parked = false → s.power.wakeDelay = none → s.power.holdup = true →
      cab = lost ∧ (inside → field = lost) ∧ (fieldOwner s.cal f = none → field = lost) ∧
        (s.forward.fieldOff = true → field = lost)) ∧
    (s.power.parked = false → s.power.wakeDelay = none → s.power.holdup = false →
      (s.forward.cabOff = true → cab = lost) ∧
      (s.forward.cabOff = false → inside → f.ident ≠ start → cab = lost) ∧
      (s.forward.cabOff = false → ¬inside → shielded →
        cab = .next (settle s
          { s with forward := { s.forward with countToField := protectedDrops s.forward.countToField } })) ∧
      (s.forward.cabOff = false → ¬inside → ¬shielded → cab = .next (settle s (forwardFrame .cabToField f s))) ∧
      (s.forward.fieldOff = true → field = lost) ∧
      (s.forward.fieldOff = false → inside →
        field = .next (settle s
          { s with forward := { s.forward with countToCab := protectedDrops s.forward.countToCab } })) ∧
      (s.forward.fieldOff = false → ¬inside → fieldOwner s.cal f = none →
        field = .next (settle s (forwardFrame .fieldToCab f s))))

/-- R168, R169, R170: the lookup of a frame, and where a passed frame goes. -/
def Obligations.LookupDecidesTheFrame : Prop :=
  ∀ (d : Direction) (f : Frame) (s : State),
    let queue := match d with
      | .cabToField => s.forward.toField
      | .fieldToCab => s.forward.toCab
    let byDefault := match d with
      | .cabToField => s.settings.toField
      | .fieldToCab => s.settings.toCab
    let queued := match d with
      | .cabToField => { s with forward := { s.forward with toField := s.forward.toField ++ [f] } }
      | .fieldToCab => { s with forward := { s.forward with toCab := s.forward.toCab ++ [f] } }
    let counted := fun (f : Counters → Counters) => match d with
      | .cabToField => { s with forward := { s.forward with countToField := f s.forward.countToField } }
      | .fieldToCab => { s with forward := { s.forward with countToCab := f s.forward.countToCab } }
    let passed :=
      if queue.length < 32 then queued
      else counted fun c => { c with fullDrop := min 65535 (c.fullDrop + 1) }
    let dropped := counted fun c => { c with tableDrop := min 65535 (c.tableDrop + 1) }
    let gated := counted fun c => { c with gatedDrop := min 65535 (c.gatedDrop + 1) }
    let decides := fun (e : PassEntry) =>
      e.inUse = true ∧ e.direction = d ∧ f.ident &&& e.mask = e.matchValue &&& e.mask
    let flows := fun (l : LineId) =>
      s.lineState l = .flowing ∨ s.lineState l = .slowdown ∨ s.lineState l = .stopping
    let fallback := (f.extended = false ∨ ∀ i : Fin 24, ¬decides s.forward.effect[i])
    (fallback → byDefault = .pass → forwardFrame d f s = passed) ∧
    (fallback → byDefault = .drop → forwardFrame d f s = dropped) ∧
    (∀ i : Fin 24, f.extended = true → decides s.forward.effect[i] → (∀ k : Fin 24, k < i → ¬decides s.forward.effect[k]) →
      let e := s.forward.effect[i]
      let gateIsOpen := match e.gate with
        | .line1 => flows .line1
        | .line2 => flows .line2
        | .either => flows .line1 ∨ flows .line2
      (e.action = .pass → forwardFrame d f s = passed) ∧
      (e.action = .drop → forwardFrame d f s = dropped) ∧
      (e.action = .passWhenFlowing → gateIsOpen → forwardFrame d f s = passed) ∧
      (e.action = .passWhenFlowing → ¬gateIsOpen → forwardFrame d f s = gated))

/-- R162, R171, R172: what each transmit port takes when it is free, in its order, and that a port that is not free
takes nothing. R175, R199: in park and in the wake delay both ports take nothing. -/
def Obligations.PortsTakeByPriority : Prop :=
  (∀ s : State, s.power.on = true → (s.power.parked = true ∨ s.power.wakeDelay ≠ none) →
    exec .fieldPortTake s = .next (settle s s) ∧ exec .cabPortTake s = .next (settle s s)) ∧
  ∀ s : State, s.power.on = true → s.power.parked = false → s.power.wakeDelay = none →
    let w := s.forward
    let fieldFree := w.txField = none ∧ w.fieldOff = false
    let cabFree := w.txCab = none ∧ w.cabOff = false
    let field := exec .fieldPortTake s
    let cab := exec .cabPortTake s
    let fieldSends := fun (f : Frame) (forwarded : Bool) (q : State) =>
      field = .next (settle s { q with forward := { q.forward with
        txField := some { frame := f, forwarded := forwarded, performs := none } } })
    let cabSends := fun (f : Frame) (forwarded : Bool) (performs : Option ResetKind) (q : State) =>
      cab = .next (settle s { q with forward := { q.forward with
        txCab := some { frame := f, forwarded := forwarded, performs := performs } } })
    let own := fun (ident : Nat) (bytes : List Byte) =>
      ({ extended := true, ident := ident, fd := false, brs := false, data := bytes } : Frame)
    let noOwn := s.valve.line1.slot = none ∧ s.valve.line2.slot = none ∧ s.pumpSlot = none
    let ids := fun (c : LineCalibration) => [c.valveId, c.valveId + 1, c.probeId, c.airId]
    let nine := ids s.cal.lines.line1 ++ ids s.cal.lines.line2 ++ [s.cal.pumpStopId]
    let shielded := fun (f : Frame) => f.extended = true ∧ f.ident ∈ nine
    let counted := fun (n : Nat) =>
      { w.countToField with protectedDrop := min 65535 (w.countToField.protectedDrop + n) }
    let takesLine := fun (l : LineId) => cabSends (lineStatusFrame s l) false none
      { s with reports := { s.reports with lines := s.reports.lines.set l false, lastLine := some l } }
    (¬fieldFree → field = .next (settle s s)) ∧
    (fieldFree →
      (∀ st, s.valve.line1.slot = some st →
        fieldSends (own s.cal.lines.line1.valveId (b1 st.code)) false
          { s with valve := { s.valve with line1 := { s.valve.line1 with slot := none } } }) ∧
      (∀ st, s.valve.line1.slot = none → s.valve.line2.slot = some st →
        fieldSends (own s.cal.lines.line2.valveId (b1 st.code)) false
          { s with valve := { s.valve with line2 := { s.valve.line2 with slot := none } } }) ∧
      (∀ p, s.valve.line1.slot = none → s.valve.line2.slot = none → s.pumpSlot = some p →
        fieldSends (own s.cal.pumpStopId (b1 p.reason.code ++ b1 (lineField p.line))) false
          { s with pumpSlot := none }) ∧
      (∀ dropped f rest, noOwn → s.power.holdup = false → w.toField = dropped ++ f :: rest →
        (∀ x ∈ dropped, shielded x) → ¬shielded f →
        fieldSends f true { s with forward := { w with toField := rest, countToField := counted dropped.length } }) ∧
      (noOwn → s.power.holdup = false → (∀ x ∈ w.toField, shielded x) →
        field = .next (settle s
          { s with forward := { w with toField := [], countToField := counted w.toField.length } })) ∧
      (noOwn → s.power.holdup = true → field = .next (settle s s))) ∧
    (¬cabFree → cab = .next (settle s s)) ∧
    (cabFree →
      (∀ r rest, s.port.responses = r :: rest →
        cabSends r.frame false r.performs { s with port := { s.port with responses := rest } }) ∧
      (s.port.responses = [] →
        (s.reports.device = true →
          cabSends (deviceStatusFrame s) false none { s with reports := { s.reports with device := false } }) ∧
        (s.reports.device = false →
          (s.reports.lines.line1 = true → (s.reports.lines.line2 = false ∨ s.reports.lastLine ≠ some .line1) →
            takesLine .line1) ∧
          (s.reports.lines.line2 = true → (s.reports.lines.line1 = false ∨ s.reports.lastLine = some .line1) →
            takesLine .line2) ∧
          (s.reports.lines.line1 = false → s.reports.lines.line2 = false →
            (∀ f rest, s.power.holdup = false → w.toCab = f :: rest →
              cabSends f true none { s with forward := { w with toCab := rest } }) ∧
            ((s.power.holdup = true ∨ w.toCab = []) → cab = .next (settle s s))))))

/-- R171, R173, R174: a completed transmission frees its port and is counted where it came from the FIFO; entry to
bus-off and recovery, with the second protected test of a held frame; what a bus-off link or an empty port completes
changes nothing. -/
def Obligations.CompletionsAndBusOff : Prop :=
  ∀ s : State, s.power.on = true →
    let w := s.forward
    let done := fun (k : Link) (x : Forwarding) =>
      exec (.transmissionCompletion k) s = .next (settle s { s with forward := x })
    let risen := fun (t : Transmission) (c : Counters) =>
      if t.forwarded = true then { c with forwarded := min 65535 (c.forwarded + 1) } else c
    let recovers := fun (k : Link) (x : Forwarding) =>
      exec (.busOffRecovery k) s = .next (settle s { s with forward := x })
    let ids := fun (c : LineCalibration) => [c.valveId, c.valveId + 1, c.probeId, c.airId]
    let nine := ids s.cal.lines.line1 ++ ids s.cal.lines.line2 ++ [s.cal.pumpStopId]
    let heldShielded := w.fieldOff = true ∧ ∃ t, w.txField = some t ∧ t.forwarded = true ∧
      t.frame.extended = true ∧ t.frame.ident ∈ nine
    (∀ t, w.fieldOff = false → w.txField = some t →
      done .field { w with txField := none, countToField := risen t w.countToField }) ∧
    (∀ t, w.cabOff = false → w.txCab = some t → t.performs = none →
      done .cab { w with txCab := none, countToCab := risen t w.countToCab }) ∧
    ((w.fieldOff = true ∨ w.txField = none) → done .field w) ∧
    ((w.cabOff = true ∨ w.txCab = none) → done .cab w) ∧
    exec (.busOff .field) s = .next (settle s { s with forward := { w with fieldOff := true } }) ∧
    exec (.busOff .cab) s = .next (settle s { s with forward := { w with cabOff := true } }) ∧
    recovers .cab { w with cabOff := false } ∧
    (¬heldShielded → recovers .field { w with fieldOff := false }) ∧
    (heldShielded → recovers .field
      { w with
        fieldOff := false
        txField := none
        countToField := { w.countToField with protectedDrop := min 65535 (w.countToField.protectedDrop + 1) } })

/-! ### Settings, clock, conditions -/

/-- R182, R184, R185, R189, R190: WRITE SETTING clamps into the table's range, stores under its flag and leaves every
other setting; READ SETTING, RESTORE DEFAULTS, SET TIME, READ DEVICE STATUS and CLEAR CONDITION. That the value of a
setting takes 4 bytes and the condition set 1 byte (entry 13), and that an absent principal condition reads 0 in the
response of READ DEVICE STATUS (entry 40), is the model's choice. -/
def Obligations.SettingsClockAndConditions : Prop :=
  ∀ (tag : Nat) (s : State), PortReady s →
    let answers := fun (i : Instr) (code : Nat) (st : Status) (data : List Byte) (q : State) =>
      exec i s = .next (settle s (replied code tag st data q))
    let range := fun (sel : SettingSel) => (match sel with
      | .address => (0, 63)
      | .reportInterval => (100, 5000)
      | .noFlow _ => (10, 600)
      | .softStart _ => (0, 20000)
      | .slowdown _ => (0, 100000)
      | .closeAhead _ => (0, 5000)
      | .airHold => (10, 600)
      | .toField => (0, 1)
      | .toCab => (0, 1) : Int × Int)
    (∀ (st : Settings) (sel : SettingSel), getSetting st sel =
      (match sel with
        | .address => st.address
        | .reportInterval => st.reportInterval
        | .noFlow l => (st.lines.get l).noFlow
        | .softStart l => (st.lines.get l).softStart
        | .slowdown l => (st.lines.get l).slowdown
        | .closeAhead l => (st.lines.get l).closeAhead
        | .airHold => st.airHold
        | .toField => (if st.toField = .pass then 0 else 1)
        | .toCab => (if st.toCab = .pass then 0 else 1))) ∧
    (∀ (st : Settings) (sel other : SettingSel) (v : Int), other ≠ sel →
      getSetting (putSetting sel v st) other = getSetting st other) ∧
    (∀ l : LineId,
      settingOf 2 (lineNumber l) = some (.noFlow l) ∧ settingOf 3 (lineNumber l) = some (.softStart l) ∧
        settingOf 4 (lineNumber l) = some (.slowdown l) ∧ settingOf 5 (lineNumber l) = some (.closeAhead l)) ∧
    (settingOf 0 0 = some .address ∧ settingOf 1 0 = some .reportInterval ∧ settingOf 6 0 = some .airHold ∧
      settingOf 7 0 = some .toField ∧ settingOf 8 0 = some .toCab) ∧
    (∀ (setting line persist : Nat) (sel : SettingSel) (value : Int), settingOf setting line = some sel → persist ≤ 1 →
      let v := max (range sel).1 (min (range sel).2 value)
      let stored := if persist = 1 then putSetting sel v s.storedSettings else s.storedSettings
      getSetting (putSetting sel v s.settings) sel = v ∧
      answers (.writeSetting tag setting line value persist) 0x61 .ok
        (b1 setting ++ b1 line ++ s4 v ++ s4 (getSetting stored sel))
        { s with settings := putSetting sel v s.settings, storedSettings := stored }) ∧
    (∀ (setting line persist : Nat) (value : Int), (settingOf setting line = none ∨ 1 < persist) →
      answers (.writeSetting tag setting line value persist) 0x61 .parameter [] s) ∧
    (∀ (setting line : Nat) (sel : SettingSel), settingOf setting line = some sel →
      answers (.readSetting tag setting line) 0x62 .ok
        (s4 (getSetting s.settings sel) ++ s4 (getSetting s.storedSettings sel)) s) ∧
    (∀ setting line : Nat, settingOf setting line = none →
      answers (.readSetting tag setting line) 0x62 .parameter [] s) ∧
    (∀ setting line : Nat, settingOf setting line = none ↔
      8 < setting ∨ (setting ∈ [0, 1, 6, 7, 8] ∧ line ≠ 0) ∨ (setting ∈ [2, 3, 4, 5] ∧ line ≠ 1 ∧ line ≠ 2)) ∧
    (let lineDefaults : LineSettings := { noFlow := 120, softStart := 2000, slowdown := 20000, closeAhead := 1500 }
     let defaults : Settings :=
      { address := 0, reportInterval := 1000, airHold := 120, toField := .drop, toCab := .pass,
        lines := { line1 := lineDefaults, line2 := lineDefaults } }
     answers (.restoreDefaults tag) 0x63 .ok [] { s with settings := defaults, storedSettings := defaults }) ∧
    (∀ time, answers (.setTime tag time) 0x60 .ok (b4 time) { s with clock := { count := time, isSet := true } }) ∧
    answers (.readDeviceStatus tag) 0x64 .ok (b1 (conditions s).bits ++ b1 (conditions s).principal)
      { s with reports := { s.reports with device := true } } ∧
    (∀ rank, (rank < 1 ∨ 8 < rank) → answers (.clearCondition tag rank) 0x65 .parameter [] s) ∧
    (∀ rank, 1 ≤ rank → rank ≤ 8 → rank ≠ 4 → answers (.clearCondition tag rank) 0x65 .state [] s) ∧
    answers (.clearCondition tag 4) 0x65 .ok [] { s with journalDamage := false }

/-! ### Power -/

/-- R112 and R194: an assertion of POWER_FAIL enters holdup, from park too, which it ends with no wake delay; in holdup
it has no effect. What an assertion without supply does (entry 7), that a running wake delay goes on (entry 22), and that
the wake of a parked part leaves no frame in transmission (R176; entry 23, DEDUCED) is the model's. -/
def Obligations.PowerFailEntersHoldup : Prop :=
  ∀ s : State,
    let acts := fun (m : LineId) (q : State) =>
      if q.lineState m = .flowing ∨ q.lineState m = .slowdown ∨ q.lineState m = .airHold then
        enterStopping m [.powerLoss] q
      else if q.lineState m = .stopping then furtherCauses m [.powerLoss] q
      else q
    let asserted := { s with power := { s.power with failPin := true } }
    let held := fun (q : State) =>
      { q with
        power := { q.power with holdup := true }
        port := { q.port with pendingReset := none }
        pumpSlot := some { reason := .powerLoss, line := none } }
    let closed := fun (q : State) => issueStage .line2 .close (issueStage .line1 .close (acts .line2 (acts .line1 q)))
    let restarted := fun (p : PulseInput) =>
      ({ forward := p.forward, reverse := p.reverse, errors := p.errors, refA := p.refA, refB := p.refB, last := p.last,
         timerStart := s.awake, periodStart := false, flow := 0 } : PulseInput)
    let woken :=
      { asserted with
        power := { asserted.power with parked := false }
        pulse := { line1 := restarted s.pulse.line1, line2 := restarted s.pulse.line2 }
        line := { line1 := { s.line.line1 with temp := none, nextTick := s.awake + 100000 },
                  line2 := { s.line.line2 with temp := none, nextTick := s.awake + 100000 } }
        port := { s.port with previous := none }
        forward := { s.forward with txField := none, txCab := none } }
    let result := exec .powerFail s
    (s.power.on = false → result = .next asserted) ∧
    (s.power.on = true → s.power.holdup = true → result = .next (settle s asserted)) ∧
    (s.power.on = true → s.power.holdup = false →
      (s.power.parked = false → result = .next (settle s (held (closed asserted)))) ∧
      (s.power.parked = true → result = .next (settle s (held (closed woken)))))

/-- R15, R115, R134, R136, R151, R176, R182, R185, R196, R197: what power-on leaves, where the newest CALIBRATION record
is intact and applied, or names no item (entry 34); a standing POWER_FAIL enters holdup at its last step; the roll-forward
of an item, a credential and the lock (R150), and the damaged record of R135; which record is the newest CALIBRATION
record, and what its stored fields spell, as written or as a failure of the storage medium left them. That the seconds
count begins at 0 (entry 24), that Line 1's rewrite is queued first (entry 44), that no staged credential outlives a
power-on (entry 35), that a band in use is told by a byte other than 0 (entry 50), and that a credential with no value
staged for it stays and an item takes a value outside its range as `setItem` gives (entry 52) is the model's choice. -/
def Obligations.PowerOnRestoresThePart : Prop :=
  ∀ s : State,
    let result := exec .powerOn s
    let comesUp := fun (st : LineState) => match st with
      | .idle => LineState.idle
      | .armed => .armed
      | .closing => .closing
      | _ => .interrupted
    let copy := fun (l : LineId) =>
      let k := s.store.get l
      { k with
        state := comesUp k.state
        ctx :=
          if comesUp k.state = .interrupted then
            k.ctx.map fun d => { d with flags := { d.flags with interrupted := true } }
          else k.ctx }
    let line := fun (l : LineId) =>
      ({ kept := copy l, temp := none, probeErrors := 0, airFlag := false, airSilent := false, airInStop := false,
         resume := none, noFlow := none, airHold := none, airClear := none, airSilence := some (s.awake + 5000000),
         report :=
           if (s.store.get l).state = .idle then none
           else some (s.awake + s.storedSettings.reportInterval * 1000),
         nextTick := s.awake + 100000 } : Line)
    let valve : ValveRecord :=
      { commanded := .close, sendCount := 1, confirmed := false, confirmTimer := some (s.awake + 500000),
        escalated := false, retryTimer := none, reported := none, slot := some .close }
    let input : PulseInput :=
      { forward := 0, reverse := 0, errors := 0, refA := none, refB := none, last := none, timerStart := s.awake,
        periodStart := false, flow := 0 }
    let zero : Counters := { forwarded := 0, fullDrop := 0, tableDrop := 0, gatedDrop := 0, protectedDrop := 0 }
    let built := fun (l : LineId) (d : Delivery) =>
      ({ ticket := d.ticket, line := l, order := d.order, customer := d.customer, product := d.product,
         compartment := d.compartment, startTime := d.startTime, endTime := d.endTime, gross := d.gross,
         net := d.net, basis := s.cal.products[d.product].basis, billed := d.billed, unbilled := d.unbilled,
         average := if 0 < d.tempGross then some (divHalfAway d.sumTG d.tempGross) else none,
         price := d.price, amount := if d.kind = .delivery then some (amountOf d.billed (d.price.getD 0)) else none,
         preset := d.preset, stopCause := d.stopCause, faults := d.faults, flags := d.flags,
         reversePulses := d.reversePulses, integrityErrors := d.integrityErrors,
         unattendedBefore := d.unattendedBefore, eventCount := d.eventCount } : DeliveryRecord)
    let rewrite := fun (l : LineId) => match (s.store.get l).state, (s.store.get l).ctx,
        s.journal.reservations.find? (fun r => decide (r.holder = .line l)) with
      | .closing, some d, some r => (match r.sequence with
        | none => []
        | some q => [({ holder := .line l, sequence := q, contents := .delivery (built l d) } : JournalWrite)])
      | _, _, _ => []
    let intact := fun (r : JournalRecord) => r.check = Config.checkValue r.sequence r.kind (storedBytes r.kind r.contents)
    let applied := ∀ r, newestCalibration s.journal = some r →
      intact r ∧ ∀ c, calibrationOf r.contents = some c → c.newCount ≠ s.cal.eventCount + 1
    let calibrations := s.journal.records.filter fun r => decide (r.kind = .calibration)
    (newestCalibration s.journal = none ↔ calibrations = []) ∧
    (∀ r, newestCalibration s.journal = some r → r ∈ calibrations ∧ ∀ x ∈ calibrations, x.sequence ≤ r.sequence) ∧
    (∀ r ∈ calibrations, (∀ x ∈ calibrations, x.sequence ≤ r.sequence) →
      (∀ x ∈ calibrations, x.sequence = r.sequence → x = r) → newestCalibration s.journal = some r) ∧
    ((∀ c, calibrationOf (.written (.calibration c)) = some c) ∧ (∀ d, calibrationOf (.written (.delivery d)) = none) ∧
      ∀ f : RawFields,
        let byte := fun (i : Nat) => (f.first.extractLsb' (8 * i) 8).toNat
        let names : RecordItem → Prop := fun item => match item with
          | .item sel => selectorOf (byte 8) (byte 9) (byte 10) = some sel
          | .credential .inspector => byte 8 = 0 ∧ byte 9 = 15
          | .credential .fleet => byte 8 = 0 ∧ byte 9 = 16
          | .lock => byte 8 = 0 ∧ byte 9 = 17
        let value := fun (item : RecordItem) (x : BitVec 64) => match item with
          | .item (.band _ _) =>
            CalValue.band (x.extractLsb' 0 16).toNat (x.extractLsb' 16 32).toInt (decide (x.extractLsb' 48 8 ≠ 0))
          | .item _ => .int x.toInt
          | _ => .lock (x.getLsbD 0) (x.getLsbD 1) (x.getLsbD 2)
        ((∀ item, ¬names item) → calibrationOf (.changed f) = none) ∧
        ∀ item, names item → calibrationOf (.changed f) = some
          { newCount := (f.first.extractLsb' 0 32).toNat
            time := if f.mask.getLsbD 0 then some (f.first.extractLsb' 32 32).toNat else none
            item := item
            oldValue := value item (f.second.extractLsb' 0 64)
            newValue := value item (f.second.extractLsb' 64 64)
            credential := if byte 11 = 1 then some .fleet else if byte 11 = 2 then some .inspector else none }) ∧
    (applied → s.power.failPin = false → result = .next (settle s
      { s with
        clock := { count := 0, isSet := false }
        power := { on := true, failPin := false, holdup := false, releaseWaiting := false, parked := false,
                   wakeDelay := none }
        pulse := { line1 := input, line2 := input }
        line := { line1 := line .line1, line2 := line .line2 }
        valve := { line1 := valve, line2 := valve }
        pumpSlot := none
        forward := { effect := s.forward.stored, stored := s.forward.stored, toField := [], toCab := [], txField := none,
                     txCab := none, fieldOff := false, cabOff := false, countToField := zero, countToCab := zero }
        port := { address := s.storedSettings.address, responses := [], inFlight := none, previous := none,
                  pendingReset := none }
        reports := { lines := { line1 := true, line2 := true }, device := true, lastLine := none }
        settings := s.storedSettings
        journalDamage := false
        lock := { s.lock with
          staged := none
          state := if s.lock.inspector = none then .opened else .locked
          attempts := 5
          frozen := false
          relock := none }
        journal := { s.journal with
          reservations := s.journal.reservations.filter fun r => (match r.holder with
            | .line l => decide ((s.store.get l).state ≠ .idle) && (s.store.get l).ctx.isSome
            | .calibration => false)
          queue := rewrite .line1 ++ rewrite .line2 } })) ∧
    (s.power.failPin = true → ∃ t, result = .next t ∧ t.power.holdup = true ∧
      t.pumpSlot = some { reason := .powerLoss, line := none } ∧ ∀ l, (t.valve.get l).slot = some .close) ∧
    (∀ r c sel, newestCalibration s.journal = some r → intact r → calibrationOf r.contents = some c →
      c.newCount = s.cal.eventCount + 1 → c.item = .item sel →
      ∃ t, result = .next t ∧ t.cal = { setItem s.cal sel c.newValue with eventCount := c.newCount } ∧
        (∀ l, sel = .kFactor l → (t.line.get l).kept.grossRem = 0 ∧ (t.line.get l).kept.netRem = 0)) ∧
    (∀ r c which, newestCalibration s.journal = some r → intact r → calibrationOf r.contents = some c →
      c.newCount = s.cal.eventCount + 1 → c.item = .credential which →
      ∃ t, result = .next t ∧ t.cal = { s.cal with eventCount := c.newCount } ∧ t.lock.staged = none ∧
        (∀ set1 set2 strict, c.newValue = .lock set1 set2 strict → t.lock.strict = strict) ∧
        (∀ value, s.lock.staged = some { which := which, value := value } →
          (which = .inspector →
            t.lock.inspector = some value ∧ t.lock.fleet = s.lock.fleet ∧ t.lock.state = .locked) ∧
          (which = .fleet →
            t.lock.fleet = some value ∧ t.lock.inspector = s.lock.inspector ∧
              t.lock.state = if s.lock.inspector = none then .opened else .locked)) ∧
        ((∀ value, s.lock.staged ≠ some { which := which, value := value }) →
          t.lock.inspector = s.lock.inspector ∧ t.lock.fleet = s.lock.fleet ∧
            t.lock.state = if s.lock.inspector = none then .opened else .locked)) ∧
    (∀ r c, newestCalibration s.journal = some r → intact r → calibrationOf r.contents = some c →
      c.newCount = s.cal.eventCount + 1 → c.item = .lock →
      ∃ t, result = .next t ∧ t.cal = { s.cal with eventCount := c.newCount } ∧ t.lock.staged = none ∧
        t.lock.inspector = none ∧ t.lock.fleet = none ∧ t.lock.strict = false ∧ t.lock.state = .opened) ∧
    (∀ r, newestCalibration s.journal = some r → ¬intact r →
      ∃ t, result = .next t ∧ t.journalDamage = true ∧ t.cal = s.cal ∧
        t.journal.records = s.journal.records.filter fun x => decide (x.sequence ≠ r.sequence))

/-- R149 and R195: the release of POWER_FAIL is a power-on at once, or at the completion of the write in progress; a loss
of supply stops the part, and between the two stores of a CALIBRATION write it leaves the record without the change; with
no CALIBRATION write at the head there is no such instant, and it leaves the journal as it stands. The operand that
chooses that instant (entry 8), what a command does without supply (entry 7), and the seconds count of 0 after that
power-on (entry 24) are the model's. -/
def Obligations.HoldupEndsByReleaseOrSupply : Prop :=
  ∀ s : State,
    let released := { s with power := { s.power with failPin := false } }
    let off := fun (q : State) => { q with power := { q.power with on := false } }
    let result := exec .powerFailRelease s
    (s.power.on = true → s.power.holdup = false → result = .next (settle s released)) ∧
    (s.power.on = true → s.power.holdup = true → s.journal.queue = [] → result = exec .powerOn released) ∧
    (s.power.on = true → s.power.holdup = true → s.journal.queue ≠ [] →
      result = .next (settle s { released with power := { released.power with releaseWaiting := true } })) ∧
    (∀ w rest, s.power.on = true → s.power.releaseWaiting = true → s.journal.queue = w :: rest →
      ∃ t, exec .writeCompletion s = .next t ∧ t.clock = { count := 0, isSet := false } ∧ t.lock.attempts = 5 ∧
        t.power.releaseWaiting = false ∧ t.power.holdup = s.power.failPin ∧ (t.port.responses = [])) ∧
    (s.power.on = true → exec (.supplyFailure false) s = .next (off s)) ∧
    (∀ w rest c, s.power.on = true → s.journal.queue = w :: rest → w.contents = .calibration c →
      exec (.supplyFailure true) s = .next (off
        { s with journal := { s.journal with
            queue := rest
            records := s.journal.records ++
              [{ sequence := w.sequence, kind := .calibration, released := false, contents := .written w.contents,
                 check := Config.checkValue w.sequence .calibration (storedBytes .calibration (.written w.contents)) }]
            reservations := s.journal.reservations.filter fun r => decide (r.holder ≠ w.holder)
            newestWritten := max s.journal.newestWritten w.sequence } })) ∧
    (s.power.on = true → (s.journal.queue = [] ∨ ∃ w rest d, s.journal.queue = w :: rest ∧ w.contents = .delivery d) →
      exec (.supplyFailure true) s = .next (off s)) ∧
    (s.power.on = false → result = .next released ∧ ∀ b, exec (.supplyFailure b) s = .next s)

/-- R14, R16, R198, R200: the checks of PARK and RESTART, the pending state, which response carries what, and what the
completion of the OK answer's transmission performs. R115: an accepted RESTART discards the valve commands and the pump
stop that are pending in their slots; that it does so when it becomes pending is deduced from that rule (entry 51). A
RESTART is what a power-on gives after the final ticks, but for the clock, which is kept. -/
def Obligations.ParkAndRestart : Prop :=
  ∀ s : State,
    let idle := s.lineState .line1 = .idle ∧ s.lineState .line2 = .idle
    let quiet := ∀ l : LineId, (s.pulse.get l).flow = 0 ∧ (s.pulse.get l).forward = 0 ∧ (s.pulse.get l).reverse = 0
    (performsOf 0x66 .ok = some .park ∧ performsOf 0x67 .ok = some .restart ∧
      (∀ code, code ≠ 0x66 → code ≠ 0x67 → performsOf code .ok = none) ∧
      ∀ code st, st ≠ .ok → performsOf code st = none) ∧
    (∀ (r : Response) (rest : List Response), s.power.on = true → s.power.parked = false →
      s.power.wakeDelay = none → s.forward.txCab = none → s.forward.cabOff = false → s.port.responses = r :: rest →
      ∃ u, exec .cabPortTake s = .next u ∧
        u.forward.txCab = some { frame := r.frame, forwarded := false, performs := r.performs }) ∧
    (∀ tag, PortReady s →
      let park := fun st q => exec (.park tag) s = .next (settle s (replied 0x66 tag st [] q))
      let restart := fun st q => exec (.restart tag) s = .next (settle s (replied 0x67 tag st [] q))
      (¬idle → park .state s ∧ restart .state s) ∧
      (idle → ¬quiet → park .wakePending s) ∧
      (idle → quiet → park .ok { s with port := { s.port with pendingReset := some .park } }) ∧
      (idle → restart .ok
        { s with
          valve := { line1 := { s.valve.line1 with slot := none }, line2 := { s.valve.line2 with slot := none } }
          pumpSlot := none
          port := { s.port with pendingReset := some .restart } })) ∧
    (∀ (t : Transmission) (k : ResetKind), s.power.on = true → s.forward.cabOff = false → s.forward.txCab = some t →
      t.forwarded = false → t.performs = some k →
      let result := exec (.transmissionCompletion .cab) s
      let sent := { s with forward := { s.forward with txCab := none } }
      let ended := { sent with port := { s.port with pendingReset := none } }
      let ticked := tick .line2 (tick .line1 sent)
      (s.port.pendingReset ≠ some k → result = .next (settle s sent)) ∧
      (s.port.pendingReset = some .park → k = .park → ¬quiet → result = .next (settle s ended)) ∧
      (s.port.pendingReset = some .park → k = .park → quiet → result = .next (settle s
        { ended with
          power := { s.power with parked := true }
          forward := { sent.forward with toField := [], toCab := [] } })) ∧
      (s.port.pendingReset = some .restart → k = .restart → idle →
        ∃ u w, result = .next u ∧ result = .next (settle s (runPowerOn true { ticked with store := copies ticked })) ∧
          exec .powerOn { ticked with store := copies ticked } = .next w ∧ u = { w with clock := s.clock } ∧
          u.clock = s.clock ∧ u.lock.attempts = 5 ∧ u.lock.frozen = false ∧ u.settings = s.storedSettings ∧
          u.port.pendingReset = none))

/-! ### What every step keeps -/

/-- R70 and R103: in every state whose valve commands follow the lines, so do those of the next. -/
def Obligations.StepKeepsValveLaw : Prop := ∀ s t : State, ValveLaw s → step s = .next t → ValveLaw t

/-- R46, R68, R69, R186, R193: a compartment stays granted to the line whose delivery names it, and a line holds what
its state calls for. -/
def Obligations.StepKeepsGrantLaw : Prop := ∀ s t : State, GrantLaw s → step s = .next t → GrantLaw t

/-- R23 and R31: the remainders stay below one unit. -/
def Obligations.StepKeepsRemainderLaw : Prop := ∀ s t : State, RemainderLaw s → step s = .next t → RemainderLaw t

/-- R57, R88, R153, R170, R173, R177, R180, R182: settings stay in range, and queues and counters in their bounds. -/
def Obligations.StepKeepsSettingsAndBounds : Prop :=
  ∀ s t : State, SettingsLaw s → BoundsLaw s → step s = .next t → SettingsLaw t ∧ BoundsLaw t

/-- R117, R119, R125, R135, R142: the journal keeps its places, reservations and writes in order. Where no intact
CALIBRATION record bears more than the event count plus 1, the event count rises only by one at a time, and while every
failure of the storage medium is one that the check value finds (R128; entry 34), that stays so. -/
def Obligations.StepKeepsJournalAndEventCount : Prop :=
  (∀ s t : State, EventCountLaw s → step s = .next t → EventCountLaw t) ∧
  (∀ s t : State, RecordCountLaw s → step s = .next t →
    t.cal.eventCount = s.cal.eventCount ∨ t.cal.eventCount = s.cal.eventCount + 1) ∧
  ∀ s t : State, RecordCountLaw s → DamageIsFound s → step s = .next t → RecordCountLaw t

/-- R118, R120 and R153: no command lowers the newest sequence, newest written or newest ticket number, and the attempts
remaining rise, to 5, only where power-on or RESTART is performed: at a return of the supply, at a release of POWER_FAIL
in holdup with no write in progress, at the completion of the write that a release waits for, and at the completion of
the transmission that performs a standing RESTART. -/
def Obligations.NumbersNeverFall : Prop :=
  ∀ (c : Instr) (s t : State), exec c s = .next t →
    s.journal.newestSeq ≤ t.journal.newestSeq ∧ s.journal.newestWritten ≤ t.journal.newestWritten ∧
      s.journal.newestTicket ≤ t.journal.newestTicket ∧
      (t.lock.attempts ≤ s.lock.attempts ∨
        (t.lock.attempts = 5 ∧
          (c = .powerOn ∨
            (c = .powerFailRelease ∧ s.power.on = true ∧ s.power.holdup = true ∧ s.journal.queue = []) ∨
            (c = .writeCompletion ∧ s.power.on = true ∧ s.power.releaseWaiting = true ∧ s.journal.queue ≠ []) ∨
            (c = .transmissionCompletion .cab ∧ s.power.on = true ∧ s.forward.cabOff = false ∧
              s.port.pendingReset = some .restart ∧
              ∃ x, s.forward.txCab = some x ∧ x.performs = some .restart))))
end

