-- ==== Sys2Proof/Laws/State.lean ====
section
/-! SUPPORT. One lemma per field per update of the state, true by rfl, so that no later proof unfolds a record update;
and the reads and writes of a per-line value. -/

namespace Sys2Proof.Machine

/-! ### Per-line values -/

@[simp] theorem PerLine.get_set_same {α : Type} (p : PerLine α) (l : LineId) (a : α) : (p.set l a).get l = a := by
  cases l <;> rfl

theorem PerLine.get_set_other {α : Type} (p : PerLine α) (l m : LineId) (a : α) (h : m ≠ l) :
    (p.set l a).get m = p.get m := by
  cases l <;> cases m <;> first | rfl | exact absurd rfl h

theorem PerLine.get_set {α : Type} (p : PerLine α) (l m : LineId) (a : α) :
    (p.set l a).get m = if m = l then a else p.get m := by
  cases l <;> cases m <;> rfl

@[simp] theorem PerLine.set_set {α : Type} (p : PerLine α) (l : LineId) (a b : α) :
    (p.set l a).set l b = p.set l b := by
  cases l <;> rfl

@[simp] theorem PerLine.set_get {α : Type} (p : PerLine α) (l : LineId) : p.set l (p.get l) = p := by
  cases l <;> rfl

@[simp] theorem PerLine.mk_get {α : Type} (a : α) (l : LineId) : (PerLine.mk a a).get l = a := by
  cases l <;> rfl

/-! ### Updates -/

@[simp] theorem State.modLine_pending (s : State) (l : LineId) (g : Line → Line) :
    (s.modLine l g).pending = s.pending := rfl

@[simp] theorem State.modLine_now (s : State) (l : LineId) (g : Line → Line) :
    (s.modLine l g).now = s.now := rfl

@[simp] theorem State.modLine_awake (s : State) (l : LineId) (g : Line → Line) :
    (s.modLine l g).awake = s.awake := rfl

@[simp] theorem State.modLine_clock (s : State) (l : LineId) (g : Line → Line) :
    (s.modLine l g).clock = s.clock := rfl

@[simp] theorem State.modLine_power (s : State) (l : LineId) (g : Line → Line) :
    (s.modLine l g).power = s.power := rfl

@[simp] theorem State.modLine_levels (s : State) (l : LineId) (g : Line → Line) :
    (s.modLine l g).levels = s.levels := rfl

@[simp] theorem State.modLine_pulse (s : State) (l : LineId) (g : Line → Line) :
    (s.modLine l g).pulse = s.pulse := rfl

@[simp] theorem State.modLine_valve (s : State) (l : LineId) (g : Line → Line) :
    (s.modLine l g).valve = s.valve := rfl

@[simp] theorem State.modLine_pumpSlot (s : State) (l : LineId) (g : Line → Line) :
    (s.modLine l g).pumpSlot = s.pumpSlot := rfl

@[simp] theorem State.modLine_compartments (s : State) (l : LineId) (g : Line → Line) :
    (s.modLine l g).compartments = s.compartments := rfl

@[simp] theorem State.modLine_orders (s : State) (l : LineId) (g : Line → Line) :
    (s.modLine l g).orders = s.orders := rfl

@[simp] theorem State.modLine_journal (s : State) (l : LineId) (g : Line → Line) :
    (s.modLine l g).journal = s.journal := rfl

@[simp] theorem State.modLine_journalDamage (s : State) (l : LineId) (g : Line → Line) :
    (s.modLine l g).journalDamage = s.journalDamage := rfl

@[simp] theorem State.modLine_cal (s : State) (l : LineId) (g : Line → Line) :
    (s.modLine l g).cal = s.cal := rfl

@[simp] theorem State.modLine_lock (s : State) (l : LineId) (g : Line → Line) :
    (s.modLine l g).lock = s.lock := rfl

@[simp] theorem State.modLine_forward (s : State) (l : LineId) (g : Line → Line) :
    (s.modLine l g).forward = s.forward := rfl

@[simp] theorem State.modLine_port (s : State) (l : LineId) (g : Line → Line) :
    (s.modLine l g).port = s.port := rfl

@[simp] theorem State.modLine_reports (s : State) (l : LineId) (g : Line → Line) :
    (s.modLine l g).reports = s.reports := rfl

@[simp] theorem State.modLine_settings (s : State) (l : LineId) (g : Line → Line) :
    (s.modLine l g).settings = s.settings := rfl

@[simp] theorem State.modLine_storedSettings (s : State) (l : LineId) (g : Line → Line) :
    (s.modLine l g).storedSettings = s.storedSettings := rfl

@[simp] theorem State.modLine_store (s : State) (l : LineId) (g : Line → Line) :
    (s.modLine l g).store = s.store := rfl

@[simp] theorem State.modLine_line (s : State) (l : LineId) (g : Line → Line) :
    (s.modLine l g).line = s.line.set l (g (s.line.get l)) := rfl

@[simp] theorem State.modKept_pending (s : State) (l : LineId) (g : LineCopy → LineCopy) :
    (s.modKept l g).pending = s.pending := rfl

@[simp] theorem State.modKept_now (s : State) (l : LineId) (g : LineCopy → LineCopy) :
    (s.modKept l g).now = s.now := rfl

@[simp] theorem State.modKept_awake (s : State) (l : LineId) (g : LineCopy → LineCopy) :
    (s.modKept l g).awake = s.awake := rfl

@[simp] theorem State.modKept_clock (s : State) (l : LineId) (g : LineCopy → LineCopy) :
    (s.modKept l g).clock = s.clock := rfl

@[simp] theorem State.modKept_power (s : State) (l : LineId) (g : LineCopy → LineCopy) :
    (s.modKept l g).power = s.power := rfl

@[simp] theorem State.modKept_levels (s : State) (l : LineId) (g : LineCopy → LineCopy) :
    (s.modKept l g).levels = s.levels := rfl

@[simp] theorem State.modKept_pulse (s : State) (l : LineId) (g : LineCopy → LineCopy) :
    (s.modKept l g).pulse = s.pulse := rfl

@[simp] theorem State.modKept_valve (s : State) (l : LineId) (g : LineCopy → LineCopy) :
    (s.modKept l g).valve = s.valve := rfl

@[simp] theorem State.modKept_pumpSlot (s : State) (l : LineId) (g : LineCopy → LineCopy) :
    (s.modKept l g).pumpSlot = s.pumpSlot := rfl

@[simp] theorem State.modKept_compartments (s : State) (l : LineId) (g : LineCopy → LineCopy) :
    (s.modKept l g).compartments = s.compartments := rfl

@[simp] theorem State.modKept_orders (s : State) (l : LineId) (g : LineCopy → LineCopy) :
    (s.modKept l g).orders = s.orders := rfl

@[simp] theorem State.modKept_journal (s : State) (l : LineId) (g : LineCopy → LineCopy) :
    (s.modKept l g).journal = s.journal := rfl

@[simp] theorem State.modKept_journalDamage (s : State) (l : LineId) (g : LineCopy → LineCopy) :
    (s.modKept l g).journalDamage = s.journalDamage := rfl

@[simp] theorem State.modKept_cal (s : State) (l : LineId) (g : LineCopy → LineCopy) :
    (s.modKept l g).cal = s.cal := rfl

@[simp] theorem State.modKept_lock (s : State) (l : LineId) (g : LineCopy → LineCopy) :
    (s.modKept l g).lock = s.lock := rfl

@[simp] theorem State.modKept_forward (s : State) (l : LineId) (g : LineCopy → LineCopy) :
    (s.modKept l g).forward = s.forward := rfl

@[simp] theorem State.modKept_port (s : State) (l : LineId) (g : LineCopy → LineCopy) :
    (s.modKept l g).port = s.port := rfl

@[simp] theorem State.modKept_reports (s : State) (l : LineId) (g : LineCopy → LineCopy) :
    (s.modKept l g).reports = s.reports := rfl

@[simp] theorem State.modKept_settings (s : State) (l : LineId) (g : LineCopy → LineCopy) :
    (s.modKept l g).settings = s.settings := rfl

@[simp] theorem State.modKept_storedSettings (s : State) (l : LineId) (g : LineCopy → LineCopy) :
    (s.modKept l g).storedSettings = s.storedSettings := rfl

@[simp] theorem State.modKept_store (s : State) (l : LineId) (g : LineCopy → LineCopy) :
    (s.modKept l g).store = s.store := rfl

@[simp] theorem State.modKept_line (s : State) (l : LineId) (g : LineCopy → LineCopy) :
    (s.modKept l g).line = s.line.set l { s.line.get l with kept := g (s.line.get l).kept } := rfl

@[simp] theorem State.modCtx_pending (s : State) (l : LineId) (g : Delivery → Delivery) :
    (s.modCtx l g).pending = s.pending := rfl

@[simp] theorem State.modCtx_now (s : State) (l : LineId) (g : Delivery → Delivery) :
    (s.modCtx l g).now = s.now := rfl

@[simp] theorem State.modCtx_awake (s : State) (l : LineId) (g : Delivery → Delivery) :
    (s.modCtx l g).awake = s.awake := rfl

@[simp] theorem State.modCtx_clock (s : State) (l : LineId) (g : Delivery → Delivery) :
    (s.modCtx l g).clock = s.clock := rfl

@[simp] theorem State.modCtx_power (s : State) (l : LineId) (g : Delivery → Delivery) :
    (s.modCtx l g).power = s.power := rfl

@[simp] theorem State.modCtx_levels (s : State) (l : LineId) (g : Delivery → Delivery) :
    (s.modCtx l g).levels = s.levels := rfl

@[simp] theorem State.modCtx_pulse (s : State) (l : LineId) (g : Delivery → Delivery) :
    (s.modCtx l g).pulse = s.pulse := rfl

@[simp] theorem State.modCtx_valve (s : State) (l : LineId) (g : Delivery → Delivery) :
    (s.modCtx l g).valve = s.valve := rfl

@[simp] theorem State.modCtx_pumpSlot (s : State) (l : LineId) (g : Delivery → Delivery) :
    (s.modCtx l g).pumpSlot = s.pumpSlot := rfl

@[simp] theorem State.modCtx_compartments (s : State) (l : LineId) (g : Delivery → Delivery) :
    (s.modCtx l g).compartments = s.compartments := rfl

@[simp] theorem State.modCtx_orders (s : State) (l : LineId) (g : Delivery → Delivery) :
    (s.modCtx l g).orders = s.orders := rfl

@[simp] theorem State.modCtx_journal (s : State) (l : LineId) (g : Delivery → Delivery) :
    (s.modCtx l g).journal = s.journal := rfl

@[simp] theorem State.modCtx_journalDamage (s : State) (l : LineId) (g : Delivery → Delivery) :
    (s.modCtx l g).journalDamage = s.journalDamage := rfl

@[simp] theorem State.modCtx_cal (s : State) (l : LineId) (g : Delivery → Delivery) :
    (s.modCtx l g).cal = s.cal := rfl

@[simp] theorem State.modCtx_lock (s : State) (l : LineId) (g : Delivery → Delivery) :
    (s.modCtx l g).lock = s.lock := rfl

@[simp] theorem State.modCtx_forward (s : State) (l : LineId) (g : Delivery → Delivery) :
    (s.modCtx l g).forward = s.forward := rfl

@[simp] theorem State.modCtx_port (s : State) (l : LineId) (g : Delivery → Delivery) :
    (s.modCtx l g).port = s.port := rfl

@[simp] theorem State.modCtx_reports (s : State) (l : LineId) (g : Delivery → Delivery) :
    (s.modCtx l g).reports = s.reports := rfl

@[simp] theorem State.modCtx_settings (s : State) (l : LineId) (g : Delivery → Delivery) :
    (s.modCtx l g).settings = s.settings := rfl

@[simp] theorem State.modCtx_storedSettings (s : State) (l : LineId) (g : Delivery → Delivery) :
    (s.modCtx l g).storedSettings = s.storedSettings := rfl

@[simp] theorem State.modCtx_store (s : State) (l : LineId) (g : Delivery → Delivery) :
    (s.modCtx l g).store = s.store := rfl

@[simp] theorem State.modCtx_line (s : State) (l : LineId) (g : Delivery → Delivery) :
    (s.modCtx l g).line =
      s.line.set l { s.line.get l with kept := { (s.line.get l).kept with ctx := (s.ctx l).map g } } := rfl

@[simp] theorem State.modPulse_pending (s : State) (l : LineId) (g : PulseInput → PulseInput) :
    (s.modPulse l g).pending = s.pending := rfl

@[simp] theorem State.modPulse_now (s : State) (l : LineId) (g : PulseInput → PulseInput) :
    (s.modPulse l g).now = s.now := rfl

@[simp] theorem State.modPulse_awake (s : State) (l : LineId) (g : PulseInput → PulseInput) :
    (s.modPulse l g).awake = s.awake := rfl

@[simp] theorem State.modPulse_clock (s : State) (l : LineId) (g : PulseInput → PulseInput) :
    (s.modPulse l g).clock = s.clock := rfl

@[simp] theorem State.modPulse_power (s : State) (l : LineId) (g : PulseInput → PulseInput) :
    (s.modPulse l g).power = s.power := rfl

@[simp] theorem State.modPulse_levels (s : State) (l : LineId) (g : PulseInput → PulseInput) :
    (s.modPulse l g).levels = s.levels := rfl

@[simp] theorem State.modPulse_line (s : State) (l : LineId) (g : PulseInput → PulseInput) :
    (s.modPulse l g).line = s.line := rfl

@[simp] theorem State.modPulse_valve (s : State) (l : LineId) (g : PulseInput → PulseInput) :
    (s.modPulse l g).valve = s.valve := rfl

@[simp] theorem State.modPulse_pumpSlot (s : State) (l : LineId) (g : PulseInput → PulseInput) :
    (s.modPulse l g).pumpSlot = s.pumpSlot := rfl

@[simp] theorem State.modPulse_compartments (s : State) (l : LineId) (g : PulseInput → PulseInput) :
    (s.modPulse l g).compartments = s.compartments := rfl

@[simp] theorem State.modPulse_orders (s : State) (l : LineId) (g : PulseInput → PulseInput) :
    (s.modPulse l g).orders = s.orders := rfl

@[simp] theorem State.modPulse_journal (s : State) (l : LineId) (g : PulseInput → PulseInput) :
    (s.modPulse l g).journal = s.journal := rfl

@[simp] theorem State.modPulse_journalDamage (s : State) (l : LineId) (g : PulseInput → PulseInput) :
    (s.modPulse l g).journalDamage = s.journalDamage := rfl

@[simp] theorem State.modPulse_cal (s : State) (l : LineId) (g : PulseInput → PulseInput) :
    (s.modPulse l g).cal = s.cal := rfl

@[simp] theorem State.modPulse_lock (s : State) (l : LineId) (g : PulseInput → PulseInput) :
    (s.modPulse l g).lock = s.lock := rfl

@[simp] theorem State.modPulse_forward (s : State) (l : LineId) (g : PulseInput → PulseInput) :
    (s.modPulse l g).forward = s.forward := rfl

@[simp] theorem State.modPulse_port (s : State) (l : LineId) (g : PulseInput → PulseInput) :
    (s.modPulse l g).port = s.port := rfl

@[simp] theorem State.modPulse_reports (s : State) (l : LineId) (g : PulseInput → PulseInput) :
    (s.modPulse l g).reports = s.reports := rfl

@[simp] theorem State.modPulse_settings (s : State) (l : LineId) (g : PulseInput → PulseInput) :
    (s.modPulse l g).settings = s.settings := rfl

@[simp] theorem State.modPulse_storedSettings (s : State) (l : LineId) (g : PulseInput → PulseInput) :
    (s.modPulse l g).storedSettings = s.storedSettings := rfl

@[simp] theorem State.modPulse_store (s : State) (l : LineId) (g : PulseInput → PulseInput) :
    (s.modPulse l g).store = s.store := rfl

@[simp] theorem State.modPulse_pulse (s : State) (l : LineId) (g : PulseInput → PulseInput) :
    (s.modPulse l g).pulse = s.pulse.set l (g (s.pulse.get l)) := rfl

@[simp] theorem State.modValve_pending (s : State) (l : LineId) (g : ValveRecord → ValveRecord) :
    (s.modValve l g).pending = s.pending := rfl

@[simp] theorem State.modValve_now (s : State) (l : LineId) (g : ValveRecord → ValveRecord) :
    (s.modValve l g).now = s.now := rfl

@[simp] theorem State.modValve_awake (s : State) (l : LineId) (g : ValveRecord → ValveRecord) :
    (s.modValve l g).awake = s.awake := rfl

@[simp] theorem State.modValve_clock (s : State) (l : LineId) (g : ValveRecord → ValveRecord) :
    (s.modValve l g).clock = s.clock := rfl

@[simp] theorem State.modValve_power (s : State) (l : LineId) (g : ValveRecord → ValveRecord) :
    (s.modValve l g).power = s.power := rfl

@[simp] theorem State.modValve_levels (s : State) (l : LineId) (g : ValveRecord → ValveRecord) :
    (s.modValve l g).levels = s.levels := rfl

@[simp] theorem State.modValve_pulse (s : State) (l : LineId) (g : ValveRecord → ValveRecord) :
    (s.modValve l g).pulse = s.pulse := rfl

@[simp] theorem State.modValve_line (s : State) (l : LineId) (g : ValveRecord → ValveRecord) :
    (s.modValve l g).line = s.line := rfl

@[simp] theorem State.modValve_pumpSlot (s : State) (l : LineId) (g : ValveRecord → ValveRecord) :
    (s.modValve l g).pumpSlot = s.pumpSlot := rfl

@[simp] theorem State.modValve_compartments (s : State) (l : LineId) (g : ValveRecord → ValveRecord) :
    (s.modValve l g).compartments = s.compartments := rfl

@[simp] theorem State.modValve_orders (s : State) (l : LineId) (g : ValveRecord → ValveRecord) :
    (s.modValve l g).orders = s.orders := rfl

@[simp] theorem State.modValve_journal (s : State) (l : LineId) (g : ValveRecord → ValveRecord) :
    (s.modValve l g).journal = s.journal := rfl

@[simp] theorem State.modValve_journalDamage (s : State) (l : LineId) (g : ValveRecord → ValveRecord) :
    (s.modValve l g).journalDamage = s.journalDamage := rfl

@[simp] theorem State.modValve_cal (s : State) (l : LineId) (g : ValveRecord → ValveRecord) :
    (s.modValve l g).cal = s.cal := rfl

@[simp] theorem State.modValve_lock (s : State) (l : LineId) (g : ValveRecord → ValveRecord) :
    (s.modValve l g).lock = s.lock := rfl

@[simp] theorem State.modValve_forward (s : State) (l : LineId) (g : ValveRecord → ValveRecord) :
    (s.modValve l g).forward = s.forward := rfl

@[simp] theorem State.modValve_port (s : State) (l : LineId) (g : ValveRecord → ValveRecord) :
    (s.modValve l g).port = s.port := rfl

@[simp] theorem State.modValve_reports (s : State) (l : LineId) (g : ValveRecord → ValveRecord) :
    (s.modValve l g).reports = s.reports := rfl

@[simp] theorem State.modValve_settings (s : State) (l : LineId) (g : ValveRecord → ValveRecord) :
    (s.modValve l g).settings = s.settings := rfl

@[simp] theorem State.modValve_storedSettings (s : State) (l : LineId) (g : ValveRecord → ValveRecord) :
    (s.modValve l g).storedSettings = s.storedSettings := rfl

@[simp] theorem State.modValve_store (s : State) (l : LineId) (g : ValveRecord → ValveRecord) :
    (s.modValve l g).store = s.store := rfl

@[simp] theorem State.modValve_valve (s : State) (l : LineId) (g : ValveRecord → ValveRecord) :
    (s.modValve l g).valve = s.valve.set l (g (s.valve.get l)) := rfl

@[simp] theorem State.modCompartment_pending (s : State) (c : CompartmentNo) (g : Compartment → Compartment) :
    (s.modCompartment c g).pending = s.pending := rfl

@[simp] theorem State.modCompartment_now (s : State) (c : CompartmentNo) (g : Compartment → Compartment) :
    (s.modCompartment c g).now = s.now := rfl

@[simp] theorem State.modCompartment_awake (s : State) (c : CompartmentNo) (g : Compartment → Compartment) :
    (s.modCompartment c g).awake = s.awake := rfl

@[simp] theorem State.modCompartment_clock (s : State) (c : CompartmentNo) (g : Compartment → Compartment) :
    (s.modCompartment c g).clock = s.clock := rfl

@[simp] theorem State.modCompartment_power (s : State) (c : CompartmentNo) (g : Compartment → Compartment) :
    (s.modCompartment c g).power = s.power := rfl

@[simp] theorem State.modCompartment_levels (s : State) (c : CompartmentNo) (g : Compartment → Compartment) :
    (s.modCompartment c g).levels = s.levels := rfl

@[simp] theorem State.modCompartment_pulse (s : State) (c : CompartmentNo) (g : Compartment → Compartment) :
    (s.modCompartment c g).pulse = s.pulse := rfl

@[simp] theorem State.modCompartment_line (s : State) (c : CompartmentNo) (g : Compartment → Compartment) :
    (s.modCompartment c g).line = s.line := rfl

@[simp] theorem State.modCompartment_valve (s : State) (c : CompartmentNo) (g : Compartment → Compartment) :
    (s.modCompartment c g).valve = s.valve := rfl

@[simp] theorem State.modCompartment_pumpSlot (s : State) (c : CompartmentNo) (g : Compartment → Compartment) :
    (s.modCompartment c g).pumpSlot = s.pumpSlot := rfl

@[simp] theorem State.modCompartment_orders (s : State) (c : CompartmentNo) (g : Compartment → Compartment) :
    (s.modCompartment c g).orders = s.orders := rfl

@[simp] theorem State.modCompartment_journal (s : State) (c : CompartmentNo) (g : Compartment → Compartment) :
    (s.modCompartment c g).journal = s.journal := rfl

@[simp] theorem State.modCompartment_journalDamage (s : State) (c : CompartmentNo) (g : Compartment → Compartment) :
    (s.modCompartment c g).journalDamage = s.journalDamage := rfl

@[simp] theorem State.modCompartment_cal (s : State) (c : CompartmentNo) (g : Compartment → Compartment) :
    (s.modCompartment c g).cal = s.cal := rfl

@[simp] theorem State.modCompartment_lock (s : State) (c : CompartmentNo) (g : Compartment → Compartment) :
    (s.modCompartment c g).lock = s.lock := rfl

@[simp] theorem State.modCompartment_forward (s : State) (c : CompartmentNo) (g : Compartment → Compartment) :
    (s.modCompartment c g).forward = s.forward := rfl

@[simp] theorem State.modCompartment_port (s : State) (c : CompartmentNo) (g : Compartment → Compartment) :
    (s.modCompartment c g).port = s.port := rfl

@[simp] theorem State.modCompartment_reports (s : State) (c : CompartmentNo) (g : Compartment → Compartment) :
    (s.modCompartment c g).reports = s.reports := rfl

@[simp] theorem State.modCompartment_settings (s : State) (c : CompartmentNo) (g : Compartment → Compartment) :
    (s.modCompartment c g).settings = s.settings := rfl

@[simp] theorem State.modCompartment_storedSettings (s : State) (c : CompartmentNo) (g : Compartment → Compartment) :
    (s.modCompartment c g).storedSettings = s.storedSettings := rfl

@[simp] theorem State.modCompartment_store (s : State) (c : CompartmentNo) (g : Compartment → Compartment) :
    (s.modCompartment c g).store = s.store := rfl

@[simp] theorem State.modCompartment_compartments (s : State) (c : CompartmentNo) (g : Compartment → Compartment) :
    (s.modCompartment c g).compartments = s.compartments.set c (g s.compartments[c]) := rfl

@[simp] theorem State.modCounters_pending (s : State) (d : Direction) (g : Counters → Counters) :
    (s.modCounters d g).pending = s.pending := by
  cases d <;> rfl

@[simp] theorem State.modCounters_now (s : State) (d : Direction) (g : Counters → Counters) :
    (s.modCounters d g).now = s.now := by
  cases d <;> rfl

@[simp] theorem State.modCounters_awake (s : State) (d : Direction) (g : Counters → Counters) :
    (s.modCounters d g).awake = s.awake := by
  cases d <;> rfl

@[simp] theorem State.modCounters_clock (s : State) (d : Direction) (g : Counters → Counters) :
    (s.modCounters d g).clock = s.clock := by
  cases d <;> rfl

@[simp] theorem State.modCounters_power (s : State) (d : Direction) (g : Counters → Counters) :
    (s.modCounters d g).power = s.power := by
  cases d <;> rfl

@[simp] theorem State.modCounters_levels (s : State) (d : Direction) (g : Counters → Counters) :
    (s.modCounters d g).levels = s.levels := by
  cases d <;> rfl

@[simp] theorem State.modCounters_pulse (s : State) (d : Direction) (g : Counters → Counters) :
    (s.modCounters d g).pulse = s.pulse := by
  cases d <;> rfl

@[simp] theorem State.modCounters_line (s : State) (d : Direction) (g : Counters → Counters) :
    (s.modCounters d g).line = s.line := by
  cases d <;> rfl

@[simp] theorem State.modCounters_valve (s : State) (d : Direction) (g : Counters → Counters) :
    (s.modCounters d g).valve = s.valve := by
  cases d <;> rfl

@[simp] theorem State.modCounters_pumpSlot (s : State) (d : Direction) (g : Counters → Counters) :
    (s.modCounters d g).pumpSlot = s.pumpSlot := by
  cases d <;> rfl

@[simp] theorem State.modCounters_compartments (s : State) (d : Direction) (g : Counters → Counters) :
    (s.modCounters d g).compartments = s.compartments := by
  cases d <;> rfl

@[simp] theorem State.modCounters_orders (s : State) (d : Direction) (g : Counters → Counters) :
    (s.modCounters d g).orders = s.orders := by
  cases d <;> rfl

@[simp] theorem State.modCounters_journal (s : State) (d : Direction) (g : Counters → Counters) :
    (s.modCounters d g).journal = s.journal := by
  cases d <;> rfl

@[simp] theorem State.modCounters_journalDamage (s : State) (d : Direction) (g : Counters → Counters) :
    (s.modCounters d g).journalDamage = s.journalDamage := by
  cases d <;> rfl

@[simp] theorem State.modCounters_cal (s : State) (d : Direction) (g : Counters → Counters) :
    (s.modCounters d g).cal = s.cal := by
  cases d <;> rfl

@[simp] theorem State.modCounters_lock (s : State) (d : Direction) (g : Counters → Counters) :
    (s.modCounters d g).lock = s.lock := by
  cases d <;> rfl

@[simp] theorem State.modCounters_port (s : State) (d : Direction) (g : Counters → Counters) :
    (s.modCounters d g).port = s.port := by
  cases d <;> rfl

@[simp] theorem State.modCounters_reports (s : State) (d : Direction) (g : Counters → Counters) :
    (s.modCounters d g).reports = s.reports := by
  cases d <;> rfl

@[simp] theorem State.modCounters_settings (s : State) (d : Direction) (g : Counters → Counters) :
    (s.modCounters d g).settings = s.settings := by
  cases d <;> rfl

@[simp] theorem State.modCounters_storedSettings (s : State) (d : Direction) (g : Counters → Counters) :
    (s.modCounters d g).storedSettings = s.storedSettings := by
  cases d <;> rfl

@[simp] theorem State.modCounters_store (s : State) (d : Direction) (g : Counters → Counters) :
    (s.modCounters d g).store = s.store := by
  cases d <;> rfl

@[simp] theorem advanceTo_pending (t : Micros) (s : State) :
    (advanceTo t s).pending = s.pending := rfl

@[simp] theorem advanceTo_power (t : Micros) (s : State) :
    (advanceTo t s).power = s.power := rfl

@[simp] theorem advanceTo_levels (t : Micros) (s : State) :
    (advanceTo t s).levels = s.levels := rfl

@[simp] theorem advanceTo_pulse (t : Micros) (s : State) :
    (advanceTo t s).pulse = s.pulse := rfl

@[simp] theorem advanceTo_line (t : Micros) (s : State) :
    (advanceTo t s).line = s.line := rfl

@[simp] theorem advanceTo_valve (t : Micros) (s : State) :
    (advanceTo t s).valve = s.valve := rfl

@[simp] theorem advanceTo_pumpSlot (t : Micros) (s : State) :
    (advanceTo t s).pumpSlot = s.pumpSlot := rfl

@[simp] theorem advanceTo_compartments (t : Micros) (s : State) :
    (advanceTo t s).compartments = s.compartments := rfl

@[simp] theorem advanceTo_orders (t : Micros) (s : State) :
    (advanceTo t s).orders = s.orders := rfl

@[simp] theorem advanceTo_journal (t : Micros) (s : State) :
    (advanceTo t s).journal = s.journal := rfl

@[simp] theorem advanceTo_journalDamage (t : Micros) (s : State) :
    (advanceTo t s).journalDamage = s.journalDamage := rfl

@[simp] theorem advanceTo_cal (t : Micros) (s : State) :
    (advanceTo t s).cal = s.cal := rfl

@[simp] theorem advanceTo_lock (t : Micros) (s : State) :
    (advanceTo t s).lock = s.lock := rfl

@[simp] theorem advanceTo_forward (t : Micros) (s : State) :
    (advanceTo t s).forward = s.forward := rfl

@[simp] theorem advanceTo_port (t : Micros) (s : State) :
    (advanceTo t s).port = s.port := rfl

@[simp] theorem advanceTo_reports (t : Micros) (s : State) :
    (advanceTo t s).reports = s.reports := rfl

@[simp] theorem advanceTo_settings (t : Micros) (s : State) :
    (advanceTo t s).settings = s.settings := rfl

@[simp] theorem advanceTo_storedSettings (t : Micros) (s : State) :
    (advanceTo t s).storedSettings = s.storedSettings := rfl

@[simp] theorem advanceTo_store (t : Micros) (s : State) :
    (advanceTo t s).store = s.store := rfl

@[simp] theorem advanceTo_now (t : Micros) (s : State) : (advanceTo t s).now = max s.now t := rfl

@[simp] theorem raiseLineStatus_pending (l : LineId) (s : State) :
    (raiseLineStatus l s).pending = s.pending := rfl

@[simp] theorem raiseLineStatus_now (l : LineId) (s : State) :
    (raiseLineStatus l s).now = s.now := rfl

@[simp] theorem raiseLineStatus_awake (l : LineId) (s : State) :
    (raiseLineStatus l s).awake = s.awake := rfl

@[simp] theorem raiseLineStatus_clock (l : LineId) (s : State) :
    (raiseLineStatus l s).clock = s.clock := rfl

@[simp] theorem raiseLineStatus_power (l : LineId) (s : State) :
    (raiseLineStatus l s).power = s.power := rfl

@[simp] theorem raiseLineStatus_levels (l : LineId) (s : State) :
    (raiseLineStatus l s).levels = s.levels := rfl

@[simp] theorem raiseLineStatus_pulse (l : LineId) (s : State) :
    (raiseLineStatus l s).pulse = s.pulse := rfl

@[simp] theorem raiseLineStatus_line (l : LineId) (s : State) :
    (raiseLineStatus l s).line = s.line := rfl

@[simp] theorem raiseLineStatus_valve (l : LineId) (s : State) :
    (raiseLineStatus l s).valve = s.valve := rfl

@[simp] theorem raiseLineStatus_pumpSlot (l : LineId) (s : State) :
    (raiseLineStatus l s).pumpSlot = s.pumpSlot := rfl

@[simp] theorem raiseLineStatus_compartments (l : LineId) (s : State) :
    (raiseLineStatus l s).compartments = s.compartments := rfl

@[simp] theorem raiseLineStatus_orders (l : LineId) (s : State) :
    (raiseLineStatus l s).orders = s.orders := rfl

@[simp] theorem raiseLineStatus_journal (l : LineId) (s : State) :
    (raiseLineStatus l s).journal = s.journal := rfl

@[simp] theorem raiseLineStatus_journalDamage (l : LineId) (s : State) :
    (raiseLineStatus l s).journalDamage = s.journalDamage := rfl

@[simp] theorem raiseLineStatus_cal (l : LineId) (s : State) :
    (raiseLineStatus l s).cal = s.cal := rfl

@[simp] theorem raiseLineStatus_lock (l : LineId) (s : State) :
    (raiseLineStatus l s).lock = s.lock := rfl

@[simp] theorem raiseLineStatus_forward (l : LineId) (s : State) :
    (raiseLineStatus l s).forward = s.forward := rfl

@[simp] theorem raiseLineStatus_port (l : LineId) (s : State) :
    (raiseLineStatus l s).port = s.port := rfl

@[simp] theorem raiseLineStatus_settings (l : LineId) (s : State) :
    (raiseLineStatus l s).settings = s.settings := rfl

@[simp] theorem raiseLineStatus_storedSettings (l : LineId) (s : State) :
    (raiseLineStatus l s).storedSettings = s.storedSettings := rfl

@[simp] theorem raiseLineStatus_store (l : LineId) (s : State) :
    (raiseLineStatus l s).store = s.store := rfl

@[simp] theorem raiseDeviceStatus_pending (s : State) :
    (raiseDeviceStatus s).pending = s.pending := rfl

@[simp] theorem raiseDeviceStatus_now (s : State) :
    (raiseDeviceStatus s).now = s.now := rfl

@[simp] theorem raiseDeviceStatus_awake (s : State) :
    (raiseDeviceStatus s).awake = s.awake := rfl

@[simp] theorem raiseDeviceStatus_clock (s : State) :
    (raiseDeviceStatus s).clock = s.clock := rfl

@[simp] theorem raiseDeviceStatus_power (s : State) :
    (raiseDeviceStatus s).power = s.power := rfl

@[simp] theorem raiseDeviceStatus_levels (s : State) :
    (raiseDeviceStatus s).levels = s.levels := rfl

@[simp] theorem raiseDeviceStatus_pulse (s : State) :
    (raiseDeviceStatus s).pulse = s.pulse := rfl

@[simp] theorem raiseDeviceStatus_line (s : State) :
    (raiseDeviceStatus s).line = s.line := rfl

@[simp] theorem raiseDeviceStatus_valve (s : State) :
    (raiseDeviceStatus s).valve = s.valve := rfl

@[simp] theorem raiseDeviceStatus_pumpSlot (s : State) :
    (raiseDeviceStatus s).pumpSlot = s.pumpSlot := rfl

@[simp] theorem raiseDeviceStatus_compartments (s : State) :
    (raiseDeviceStatus s).compartments = s.compartments := rfl

@[simp] theorem raiseDeviceStatus_orders (s : State) :
    (raiseDeviceStatus s).orders = s.orders := rfl

@[simp] theorem raiseDeviceStatus_journal (s : State) :
    (raiseDeviceStatus s).journal = s.journal := rfl

@[simp] theorem raiseDeviceStatus_journalDamage (s : State) :
    (raiseDeviceStatus s).journalDamage = s.journalDamage := rfl

@[simp] theorem raiseDeviceStatus_cal (s : State) :
    (raiseDeviceStatus s).cal = s.cal := rfl

@[simp] theorem raiseDeviceStatus_lock (s : State) :
    (raiseDeviceStatus s).lock = s.lock := rfl

@[simp] theorem raiseDeviceStatus_forward (s : State) :
    (raiseDeviceStatus s).forward = s.forward := rfl

@[simp] theorem raiseDeviceStatus_port (s : State) :
    (raiseDeviceStatus s).port = s.port := rfl

@[simp] theorem raiseDeviceStatus_settings (s : State) :
    (raiseDeviceStatus s).settings = s.settings := rfl

@[simp] theorem raiseDeviceStatus_storedSettings (s : State) :
    (raiseDeviceStatus s).storedSettings = s.storedSettings := rfl

@[simp] theorem raiseDeviceStatus_store (s : State) :
    (raiseDeviceStatus s).store = s.store := rfl

@[simp] theorem raiseDeviceStatus_device (s : State) : (raiseDeviceStatus s).reports.device = true := rfl

@[simp] theorem issueStage_pending (l : LineId) (st : Stage) (s : State) :
    (issueStage l st s).pending = s.pending := rfl

@[simp] theorem issueStage_now (l : LineId) (st : Stage) (s : State) :
    (issueStage l st s).now = s.now := rfl

@[simp] theorem issueStage_awake (l : LineId) (st : Stage) (s : State) :
    (issueStage l st s).awake = s.awake := rfl

@[simp] theorem issueStage_clock (l : LineId) (st : Stage) (s : State) :
    (issueStage l st s).clock = s.clock := rfl

@[simp] theorem issueStage_power (l : LineId) (st : Stage) (s : State) :
    (issueStage l st s).power = s.power := rfl

@[simp] theorem issueStage_levels (l : LineId) (st : Stage) (s : State) :
    (issueStage l st s).levels = s.levels := rfl

@[simp] theorem issueStage_pulse (l : LineId) (st : Stage) (s : State) :
    (issueStage l st s).pulse = s.pulse := rfl

@[simp] theorem issueStage_line (l : LineId) (st : Stage) (s : State) :
    (issueStage l st s).line = s.line := rfl

@[simp] theorem issueStage_pumpSlot (l : LineId) (st : Stage) (s : State) :
    (issueStage l st s).pumpSlot = s.pumpSlot := rfl

@[simp] theorem issueStage_compartments (l : LineId) (st : Stage) (s : State) :
    (issueStage l st s).compartments = s.compartments := rfl

@[simp] theorem issueStage_orders (l : LineId) (st : Stage) (s : State) :
    (issueStage l st s).orders = s.orders := rfl

@[simp] theorem issueStage_journal (l : LineId) (st : Stage) (s : State) :
    (issueStage l st s).journal = s.journal := rfl

@[simp] theorem issueStage_journalDamage (l : LineId) (st : Stage) (s : State) :
    (issueStage l st s).journalDamage = s.journalDamage := rfl

@[simp] theorem issueStage_cal (l : LineId) (st : Stage) (s : State) :
    (issueStage l st s).cal = s.cal := rfl

@[simp] theorem issueStage_lock (l : LineId) (st : Stage) (s : State) :
    (issueStage l st s).lock = s.lock := rfl

@[simp] theorem issueStage_forward (l : LineId) (st : Stage) (s : State) :
    (issueStage l st s).forward = s.forward := rfl

@[simp] theorem issueStage_port (l : LineId) (st : Stage) (s : State) :
    (issueStage l st s).port = s.port := rfl

@[simp] theorem issueStage_reports (l : LineId) (st : Stage) (s : State) :
    (issueStage l st s).reports = s.reports := rfl

@[simp] theorem issueStage_settings (l : LineId) (st : Stage) (s : State) :
    (issueStage l st s).settings = s.settings := rfl

@[simp] theorem issueStage_storedSettings (l : LineId) (st : Stage) (s : State) :
    (issueStage l st s).storedSettings = s.storedSettings := rfl

@[simp] theorem issueStage_store (l : LineId) (st : Stage) (s : State) :
    (issueStage l st s).store = s.store := rfl

@[simp] theorem resendStage_pending (l : LineId) (n : Nat) (s : State) :
    (resendStage l n s).pending = s.pending := rfl

@[simp] theorem resendStage_now (l : LineId) (n : Nat) (s : State) :
    (resendStage l n s).now = s.now := rfl

@[simp] theorem resendStage_awake (l : LineId) (n : Nat) (s : State) :
    (resendStage l n s).awake = s.awake := rfl

@[simp] theorem resendStage_clock (l : LineId) (n : Nat) (s : State) :
    (resendStage l n s).clock = s.clock := rfl

@[simp] theorem resendStage_power (l : LineId) (n : Nat) (s : State) :
    (resendStage l n s).power = s.power := rfl

@[simp] theorem resendStage_levels (l : LineId) (n : Nat) (s : State) :
    (resendStage l n s).levels = s.levels := rfl

@[simp] theorem resendStage_pulse (l : LineId) (n : Nat) (s : State) :
    (resendStage l n s).pulse = s.pulse := rfl

@[simp] theorem resendStage_line (l : LineId) (n : Nat) (s : State) :
    (resendStage l n s).line = s.line := rfl

@[simp] theorem resendStage_pumpSlot (l : LineId) (n : Nat) (s : State) :
    (resendStage l n s).pumpSlot = s.pumpSlot := rfl

@[simp] theorem resendStage_compartments (l : LineId) (n : Nat) (s : State) :
    (resendStage l n s).compartments = s.compartments := rfl

@[simp] theorem resendStage_orders (l : LineId) (n : Nat) (s : State) :
    (resendStage l n s).orders = s.orders := rfl

@[simp] theorem resendStage_journal (l : LineId) (n : Nat) (s : State) :
    (resendStage l n s).journal = s.journal := rfl

@[simp] theorem resendStage_journalDamage (l : LineId) (n : Nat) (s : State) :
    (resendStage l n s).journalDamage = s.journalDamage := rfl

@[simp] theorem resendStage_cal (l : LineId) (n : Nat) (s : State) :
    (resendStage l n s).cal = s.cal := rfl

@[simp] theorem resendStage_lock (l : LineId) (n : Nat) (s : State) :
    (resendStage l n s).lock = s.lock := rfl

@[simp] theorem resendStage_forward (l : LineId) (n : Nat) (s : State) :
    (resendStage l n s).forward = s.forward := rfl

@[simp] theorem resendStage_port (l : LineId) (n : Nat) (s : State) :
    (resendStage l n s).port = s.port := rfl

@[simp] theorem resendStage_reports (l : LineId) (n : Nat) (s : State) :
    (resendStage l n s).reports = s.reports := rfl

@[simp] theorem resendStage_settings (l : LineId) (n : Nat) (s : State) :
    (resendStage l n s).settings = s.settings := rfl

@[simp] theorem resendStage_storedSettings (l : LineId) (n : Nat) (s : State) :
    (resendStage l n s).storedSettings = s.storedSettings := rfl

@[simp] theorem resendStage_store (l : LineId) (n : Nat) (s : State) :
    (resendStage l n s).store = s.store := rfl

@[simp] theorem placePumpStop_pending (r : PumpReason) (l : Option LineId) (s : State) :
    (placePumpStop r l s).pending = s.pending := rfl

@[simp] theorem placePumpStop_now (r : PumpReason) (l : Option LineId) (s : State) :
    (placePumpStop r l s).now = s.now := rfl

@[simp] theorem placePumpStop_awake (r : PumpReason) (l : Option LineId) (s : State) :
    (placePumpStop r l s).awake = s.awake := rfl

@[simp] theorem placePumpStop_clock (r : PumpReason) (l : Option LineId) (s : State) :
    (placePumpStop r l s).clock = s.clock := rfl

@[simp] theorem placePumpStop_power (r : PumpReason) (l : Option LineId) (s : State) :
    (placePumpStop r l s).power = s.power := rfl

@[simp] theorem placePumpStop_levels (r : PumpReason) (l : Option LineId) (s : State) :
    (placePumpStop r l s).levels = s.levels := rfl

@[simp] theorem placePumpStop_pulse (r : PumpReason) (l : Option LineId) (s : State) :
    (placePumpStop r l s).pulse = s.pulse := rfl

@[simp] theorem placePumpStop_line (r : PumpReason) (l : Option LineId) (s : State) :
    (placePumpStop r l s).line = s.line := rfl

@[simp] theorem placePumpStop_valve (r : PumpReason) (l : Option LineId) (s : State) :
    (placePumpStop r l s).valve = s.valve := rfl

@[simp] theorem placePumpStop_compartments (r : PumpReason) (l : Option LineId) (s : State) :
    (placePumpStop r l s).compartments = s.compartments := rfl

@[simp] theorem placePumpStop_orders (r : PumpReason) (l : Option LineId) (s : State) :
    (placePumpStop r l s).orders = s.orders := rfl

@[simp] theorem placePumpStop_journal (r : PumpReason) (l : Option LineId) (s : State) :
    (placePumpStop r l s).journal = s.journal := rfl

@[simp] theorem placePumpStop_journalDamage (r : PumpReason) (l : Option LineId) (s : State) :
    (placePumpStop r l s).journalDamage = s.journalDamage := rfl

@[simp] theorem placePumpStop_cal (r : PumpReason) (l : Option LineId) (s : State) :
    (placePumpStop r l s).cal = s.cal := rfl

@[simp] theorem placePumpStop_lock (r : PumpReason) (l : Option LineId) (s : State) :
    (placePumpStop r l s).lock = s.lock := rfl

@[simp] theorem placePumpStop_forward (r : PumpReason) (l : Option LineId) (s : State) :
    (placePumpStop r l s).forward = s.forward := rfl

@[simp] theorem placePumpStop_port (r : PumpReason) (l : Option LineId) (s : State) :
    (placePumpStop r l s).port = s.port := rfl

@[simp] theorem placePumpStop_reports (r : PumpReason) (l : Option LineId) (s : State) :
    (placePumpStop r l s).reports = s.reports := rfl

@[simp] theorem placePumpStop_settings (r : PumpReason) (l : Option LineId) (s : State) :
    (placePumpStop r l s).settings = s.settings := rfl

@[simp] theorem placePumpStop_storedSettings (r : PumpReason) (l : Option LineId) (s : State) :
    (placePumpStop r l s).storedSettings = s.storedSettings := rfl

@[simp] theorem placePumpStop_store (r : PumpReason) (l : Option LineId) (s : State) :
    (placePumpStop r l s).store = s.store := rfl

@[simp] theorem setPending_pending (k : ResetKind) (s : State) :
    (setPending k s).pending = s.pending := rfl

@[simp] theorem setPending_now (k : ResetKind) (s : State) :
    (setPending k s).now = s.now := rfl

@[simp] theorem setPending_awake (k : ResetKind) (s : State) :
    (setPending k s).awake = s.awake := rfl

@[simp] theorem setPending_clock (k : ResetKind) (s : State) :
    (setPending k s).clock = s.clock := rfl

@[simp] theorem setPending_power (k : ResetKind) (s : State) :
    (setPending k s).power = s.power := rfl

@[simp] theorem setPending_levels (k : ResetKind) (s : State) :
    (setPending k s).levels = s.levels := rfl

@[simp] theorem setPending_pulse (k : ResetKind) (s : State) :
    (setPending k s).pulse = s.pulse := rfl

@[simp] theorem setPending_line (k : ResetKind) (s : State) :
    (setPending k s).line = s.line := rfl

@[simp] theorem setPending_valve (k : ResetKind) (s : State) :
    (setPending k s).valve = s.valve := rfl

@[simp] theorem setPending_pumpSlot (k : ResetKind) (s : State) :
    (setPending k s).pumpSlot = s.pumpSlot := rfl

@[simp] theorem setPending_compartments (k : ResetKind) (s : State) :
    (setPending k s).compartments = s.compartments := rfl

@[simp] theorem setPending_orders (k : ResetKind) (s : State) :
    (setPending k s).orders = s.orders := rfl

@[simp] theorem setPending_journal (k : ResetKind) (s : State) :
    (setPending k s).journal = s.journal := rfl

@[simp] theorem setPending_journalDamage (k : ResetKind) (s : State) :
    (setPending k s).journalDamage = s.journalDamage := rfl

@[simp] theorem setPending_cal (k : ResetKind) (s : State) :
    (setPending k s).cal = s.cal := rfl

@[simp] theorem setPending_lock (k : ResetKind) (s : State) :
    (setPending k s).lock = s.lock := rfl

@[simp] theorem setPending_forward (k : ResetKind) (s : State) :
    (setPending k s).forward = s.forward := rfl

@[simp] theorem setPending_reports (k : ResetKind) (s : State) :
    (setPending k s).reports = s.reports := rfl

@[simp] theorem setPending_settings (k : ResetKind) (s : State) :
    (setPending k s).settings = s.settings := rfl

@[simp] theorem setPending_storedSettings (k : ResetKind) (s : State) :
    (setPending k s).storedSettings = s.storedSettings := rfl

@[simp] theorem setPending_store (k : ResetKind) (s : State) :
    (setPending k s).store = s.store := rfl

@[simp] theorem setPending_port (k : ResetKind) (s : State) :
    (setPending k s).port = { s.port with pendingReset := some k } := rfl

@[simp] theorem emptySlots_pending (s : State) :
    (emptySlots s).pending = s.pending := rfl

@[simp] theorem emptySlots_now (s : State) :
    (emptySlots s).now = s.now := rfl

@[simp] theorem emptySlots_awake (s : State) :
    (emptySlots s).awake = s.awake := rfl

@[simp] theorem emptySlots_clock (s : State) :
    (emptySlots s).clock = s.clock := rfl

@[simp] theorem emptySlots_power (s : State) :
    (emptySlots s).power = s.power := rfl

@[simp] theorem emptySlots_levels (s : State) :
    (emptySlots s).levels = s.levels := rfl

@[simp] theorem emptySlots_pulse (s : State) :
    (emptySlots s).pulse = s.pulse := rfl

@[simp] theorem emptySlots_line (s : State) :
    (emptySlots s).line = s.line := rfl

@[simp] theorem emptySlots_compartments (s : State) :
    (emptySlots s).compartments = s.compartments := rfl

@[simp] theorem emptySlots_orders (s : State) :
    (emptySlots s).orders = s.orders := rfl

@[simp] theorem emptySlots_journal (s : State) :
    (emptySlots s).journal = s.journal := rfl

@[simp] theorem emptySlots_journalDamage (s : State) :
    (emptySlots s).journalDamage = s.journalDamage := rfl

@[simp] theorem emptySlots_cal (s : State) :
    (emptySlots s).cal = s.cal := rfl

@[simp] theorem emptySlots_lock (s : State) :
    (emptySlots s).lock = s.lock := rfl

@[simp] theorem emptySlots_forward (s : State) :
    (emptySlots s).forward = s.forward := rfl

@[simp] theorem emptySlots_port (s : State) :
    (emptySlots s).port = s.port := rfl

@[simp] theorem emptySlots_reports (s : State) :
    (emptySlots s).reports = s.reports := rfl

@[simp] theorem emptySlots_settings (s : State) :
    (emptySlots s).settings = s.settings := rfl

@[simp] theorem emptySlots_storedSettings (s : State) :
    (emptySlots s).storedSettings = s.storedSettings := rfl

@[simp] theorem emptySlots_store (s : State) :
    (emptySlots s).store = s.store := rfl

@[simp] theorem emptySlots_valve_get (s : State) (l : LineId) :
    (emptySlots s).valve.get l = { s.valve.get l with slot := none } := by
  cases l <;> rfl

@[simp] theorem emptySlots_pumpSlot (s : State) : (emptySlots s).pumpSlot = none := rfl

@[simp] theorem placeResponse_pending (code tag : Nat) (st : Status) (data : List Byte) (s : State) :
    (placeResponse code tag st data s).pending = s.pending := rfl

@[simp] theorem placeResponse_now (code tag : Nat) (st : Status) (data : List Byte) (s : State) :
    (placeResponse code tag st data s).now = s.now := rfl

@[simp] theorem placeResponse_awake (code tag : Nat) (st : Status) (data : List Byte) (s : State) :
    (placeResponse code tag st data s).awake = s.awake := rfl

@[simp] theorem placeResponse_clock (code tag : Nat) (st : Status) (data : List Byte) (s : State) :
    (placeResponse code tag st data s).clock = s.clock := rfl

@[simp] theorem placeResponse_power (code tag : Nat) (st : Status) (data : List Byte) (s : State) :
    (placeResponse code tag st data s).power = s.power := rfl

@[simp] theorem placeResponse_levels (code tag : Nat) (st : Status) (data : List Byte) (s : State) :
    (placeResponse code tag st data s).levels = s.levels := rfl

@[simp] theorem placeResponse_pulse (code tag : Nat) (st : Status) (data : List Byte) (s : State) :
    (placeResponse code tag st data s).pulse = s.pulse := rfl

@[simp] theorem placeResponse_line (code tag : Nat) (st : Status) (data : List Byte) (s : State) :
    (placeResponse code tag st data s).line = s.line := rfl

@[simp] theorem placeResponse_valve (code tag : Nat) (st : Status) (data : List Byte) (s : State) :
    (placeResponse code tag st data s).valve = s.valve := rfl

@[simp] theorem placeResponse_pumpSlot (code tag : Nat) (st : Status) (data : List Byte) (s : State) :
    (placeResponse code tag st data s).pumpSlot = s.pumpSlot := rfl

@[simp] theorem placeResponse_compartments (code tag : Nat) (st : Status) (data : List Byte) (s : State) :
    (placeResponse code tag st data s).compartments = s.compartments := rfl

@[simp] theorem placeResponse_orders (code tag : Nat) (st : Status) (data : List Byte) (s : State) :
    (placeResponse code tag st data s).orders = s.orders := rfl

@[simp] theorem placeResponse_journal (code tag : Nat) (st : Status) (data : List Byte) (s : State) :
    (placeResponse code tag st data s).journal = s.journal := rfl

@[simp] theorem placeResponse_journalDamage (code tag : Nat) (st : Status) (data : List Byte) (s : State) :
    (placeResponse code tag st data s).journalDamage = s.journalDamage := rfl

@[simp] theorem placeResponse_cal (code tag : Nat) (st : Status) (data : List Byte) (s : State) :
    (placeResponse code tag st data s).cal = s.cal := rfl

@[simp] theorem placeResponse_lock (code tag : Nat) (st : Status) (data : List Byte) (s : State) :
    (placeResponse code tag st data s).lock = s.lock := rfl

@[simp] theorem placeResponse_forward (code tag : Nat) (st : Status) (data : List Byte) (s : State) :
    (placeResponse code tag st data s).forward = s.forward := rfl

@[simp] theorem placeResponse_reports (code tag : Nat) (st : Status) (data : List Byte) (s : State) :
    (placeResponse code tag st data s).reports = s.reports := rfl

@[simp] theorem placeResponse_settings (code tag : Nat) (st : Status) (data : List Byte) (s : State) :
    (placeResponse code tag st data s).settings = s.settings := rfl

@[simp] theorem placeResponse_storedSettings (code tag : Nat) (st : Status) (data : List Byte) (s : State) :
    (placeResponse code tag st data s).storedSettings = s.storedSettings := rfl

@[simp] theorem placeResponse_store (code tag : Nat) (st : Status) (data : List Byte) (s : State) :
    (placeResponse code tag st data s).store = s.store := rfl

@[simp] theorem remember_pending (code : Nat) (st : AnswerStatus) (s : State) :
    (remember code st s).pending = s.pending := rfl

@[simp] theorem remember_now (code : Nat) (st : AnswerStatus) (s : State) :
    (remember code st s).now = s.now := rfl

@[simp] theorem remember_awake (code : Nat) (st : AnswerStatus) (s : State) :
    (remember code st s).awake = s.awake := rfl

@[simp] theorem remember_clock (code : Nat) (st : AnswerStatus) (s : State) :
    (remember code st s).clock = s.clock := rfl

@[simp] theorem remember_power (code : Nat) (st : AnswerStatus) (s : State) :
    (remember code st s).power = s.power := rfl

@[simp] theorem remember_levels (code : Nat) (st : AnswerStatus) (s : State) :
    (remember code st s).levels = s.levels := rfl

@[simp] theorem remember_pulse (code : Nat) (st : AnswerStatus) (s : State) :
    (remember code st s).pulse = s.pulse := rfl

@[simp] theorem remember_line (code : Nat) (st : AnswerStatus) (s : State) :
    (remember code st s).line = s.line := rfl

@[simp] theorem remember_valve (code : Nat) (st : AnswerStatus) (s : State) :
    (remember code st s).valve = s.valve := rfl

@[simp] theorem remember_pumpSlot (code : Nat) (st : AnswerStatus) (s : State) :
    (remember code st s).pumpSlot = s.pumpSlot := rfl

@[simp] theorem remember_compartments (code : Nat) (st : AnswerStatus) (s : State) :
    (remember code st s).compartments = s.compartments := rfl

@[simp] theorem remember_orders (code : Nat) (st : AnswerStatus) (s : State) :
    (remember code st s).orders = s.orders := rfl

@[simp] theorem remember_journal (code : Nat) (st : AnswerStatus) (s : State) :
    (remember code st s).journal = s.journal := rfl

@[simp] theorem remember_journalDamage (code : Nat) (st : AnswerStatus) (s : State) :
    (remember code st s).journalDamage = s.journalDamage := rfl

@[simp] theorem remember_cal (code : Nat) (st : AnswerStatus) (s : State) :
    (remember code st s).cal = s.cal := rfl

@[simp] theorem remember_lock (code : Nat) (st : AnswerStatus) (s : State) :
    (remember code st s).lock = s.lock := rfl

@[simp] theorem remember_forward (code : Nat) (st : AnswerStatus) (s : State) :
    (remember code st s).forward = s.forward := rfl

@[simp] theorem remember_reports (code : Nat) (st : AnswerStatus) (s : State) :
    (remember code st s).reports = s.reports := rfl

@[simp] theorem remember_settings (code : Nat) (st : AnswerStatus) (s : State) :
    (remember code st s).settings = s.settings := rfl

@[simp] theorem remember_storedSettings (code : Nat) (st : AnswerStatus) (s : State) :
    (remember code st s).storedSettings = s.storedSettings := rfl

@[simp] theorem remember_store (code : Nat) (st : AnswerStatus) (s : State) :
    (remember code st s).store = s.store := rfl

@[simp] theorem setFailPin_pending (b : Bool) (s : State) :
    (setFailPin b s).pending = s.pending := rfl

@[simp] theorem setFailPin_now (b : Bool) (s : State) :
    (setFailPin b s).now = s.now := rfl

@[simp] theorem setFailPin_awake (b : Bool) (s : State) :
    (setFailPin b s).awake = s.awake := rfl

@[simp] theorem setFailPin_clock (b : Bool) (s : State) :
    (setFailPin b s).clock = s.clock := rfl

@[simp] theorem setFailPin_levels (b : Bool) (s : State) :
    (setFailPin b s).levels = s.levels := rfl

@[simp] theorem setFailPin_pulse (b : Bool) (s : State) :
    (setFailPin b s).pulse = s.pulse := rfl

@[simp] theorem setFailPin_line (b : Bool) (s : State) :
    (setFailPin b s).line = s.line := rfl

@[simp] theorem setFailPin_valve (b : Bool) (s : State) :
    (setFailPin b s).valve = s.valve := rfl

@[simp] theorem setFailPin_pumpSlot (b : Bool) (s : State) :
    (setFailPin b s).pumpSlot = s.pumpSlot := rfl

@[simp] theorem setFailPin_compartments (b : Bool) (s : State) :
    (setFailPin b s).compartments = s.compartments := rfl

@[simp] theorem setFailPin_orders (b : Bool) (s : State) :
    (setFailPin b s).orders = s.orders := rfl

@[simp] theorem setFailPin_journal (b : Bool) (s : State) :
    (setFailPin b s).journal = s.journal := rfl

@[simp] theorem setFailPin_journalDamage (b : Bool) (s : State) :
    (setFailPin b s).journalDamage = s.journalDamage := rfl

@[simp] theorem setFailPin_cal (b : Bool) (s : State) :
    (setFailPin b s).cal = s.cal := rfl

@[simp] theorem setFailPin_lock (b : Bool) (s : State) :
    (setFailPin b s).lock = s.lock := rfl

@[simp] theorem setFailPin_forward (b : Bool) (s : State) :
    (setFailPin b s).forward = s.forward := rfl

@[simp] theorem setFailPin_port (b : Bool) (s : State) :
    (setFailPin b s).port = s.port := rfl

@[simp] theorem setFailPin_reports (b : Bool) (s : State) :
    (setFailPin b s).reports = s.reports := rfl

@[simp] theorem setFailPin_settings (b : Bool) (s : State) :
    (setFailPin b s).settings = s.settings := rfl

@[simp] theorem setFailPin_storedSettings (b : Bool) (s : State) :
    (setFailPin b s).storedSettings = s.storedSettings := rfl

@[simp] theorem setFailPin_store (b : Bool) (s : State) :
    (setFailPin b s).store = s.store := rfl

@[simp] theorem setLevel_pending (l : LineId) (e : PulserEdge) (s : State) :
    (setLevel l e s).pending = s.pending := rfl

@[simp] theorem setLevel_now (l : LineId) (e : PulserEdge) (s : State) :
    (setLevel l e s).now = s.now := rfl

@[simp] theorem setLevel_awake (l : LineId) (e : PulserEdge) (s : State) :
    (setLevel l e s).awake = s.awake := rfl

@[simp] theorem setLevel_clock (l : LineId) (e : PulserEdge) (s : State) :
    (setLevel l e s).clock = s.clock := rfl

@[simp] theorem setLevel_power (l : LineId) (e : PulserEdge) (s : State) :
    (setLevel l e s).power = s.power := rfl

@[simp] theorem setLevel_pulse (l : LineId) (e : PulserEdge) (s : State) :
    (setLevel l e s).pulse = s.pulse := rfl

@[simp] theorem setLevel_line (l : LineId) (e : PulserEdge) (s : State) :
    (setLevel l e s).line = s.line := rfl

@[simp] theorem setLevel_valve (l : LineId) (e : PulserEdge) (s : State) :
    (setLevel l e s).valve = s.valve := rfl

@[simp] theorem setLevel_pumpSlot (l : LineId) (e : PulserEdge) (s : State) :
    (setLevel l e s).pumpSlot = s.pumpSlot := rfl

@[simp] theorem setLevel_compartments (l : LineId) (e : PulserEdge) (s : State) :
    (setLevel l e s).compartments = s.compartments := rfl

@[simp] theorem setLevel_orders (l : LineId) (e : PulserEdge) (s : State) :
    (setLevel l e s).orders = s.orders := rfl

@[simp] theorem setLevel_journal (l : LineId) (e : PulserEdge) (s : State) :
    (setLevel l e s).journal = s.journal := rfl

@[simp] theorem setLevel_journalDamage (l : LineId) (e : PulserEdge) (s : State) :
    (setLevel l e s).journalDamage = s.journalDamage := rfl

@[simp] theorem setLevel_cal (l : LineId) (e : PulserEdge) (s : State) :
    (setLevel l e s).cal = s.cal := rfl

@[simp] theorem setLevel_lock (l : LineId) (e : PulserEdge) (s : State) :
    (setLevel l e s).lock = s.lock := rfl

@[simp] theorem setLevel_forward (l : LineId) (e : PulserEdge) (s : State) :
    (setLevel l e s).forward = s.forward := rfl

@[simp] theorem setLevel_port (l : LineId) (e : PulserEdge) (s : State) :
    (setLevel l e s).port = s.port := rfl

@[simp] theorem setLevel_reports (l : LineId) (e : PulserEdge) (s : State) :
    (setLevel l e s).reports = s.reports := rfl

@[simp] theorem setLevel_settings (l : LineId) (e : PulserEdge) (s : State) :
    (setLevel l e s).settings = s.settings := rfl

@[simp] theorem setLevel_storedSettings (l : LineId) (e : PulserEdge) (s : State) :
    (setLevel l e s).storedSettings = s.storedSettings := rfl

@[simp] theorem setLevel_store (l : LineId) (e : PulserEdge) (s : State) :
    (setLevel l e s).store = s.store := rfl

@[simp] theorem settle_pending (s t : State) : (settle s t).pending = t.pending := by
  simp only [settle]; split <;> rfl

@[simp] theorem settle_now (s t : State) : (settle s t).now = t.now := by
  simp only [settle]; split <;> rfl

@[simp] theorem settle_awake (s t : State) : (settle s t).awake = t.awake := by
  simp only [settle]; split <;> rfl

@[simp] theorem settle_clock (s t : State) : (settle s t).clock = t.clock := by
  simp only [settle]; split <;> rfl

@[simp] theorem settle_power (s t : State) : (settle s t).power = t.power := by
  simp only [settle]; split <;> rfl

@[simp] theorem settle_levels (s t : State) : (settle s t).levels = t.levels := by
  simp only [settle]; split <;> rfl

@[simp] theorem settle_pulse (s t : State) : (settle s t).pulse = t.pulse := by
  simp only [settle]; split <;> rfl

@[simp] theorem settle_line (s t : State) : (settle s t).line = t.line := by
  simp only [settle]; split <;> rfl

@[simp] theorem settle_valve (s t : State) : (settle s t).valve = t.valve := by
  simp only [settle]; split <;> rfl

@[simp] theorem settle_pumpSlot (s t : State) : (settle s t).pumpSlot = t.pumpSlot := by
  simp only [settle]; split <;> rfl

@[simp] theorem settle_compartments (s t : State) : (settle s t).compartments = t.compartments := by
  simp only [settle]; split <;> rfl

@[simp] theorem settle_orders (s t : State) : (settle s t).orders = t.orders := by
  simp only [settle]; split <;> rfl

@[simp] theorem settle_journal (s t : State) : (settle s t).journal = t.journal := by
  simp only [settle]; split <;> rfl

@[simp] theorem settle_journalDamage (s t : State) : (settle s t).journalDamage = t.journalDamage := by
  simp only [settle]; split <;> rfl

@[simp] theorem settle_cal (s t : State) : (settle s t).cal = t.cal := by
  simp only [settle]; split <;> rfl

@[simp] theorem settle_lock (s t : State) : (settle s t).lock = t.lock := by
  simp only [settle]; split <;> rfl

@[simp] theorem settle_forward (s t : State) : (settle s t).forward = t.forward := by
  simp only [settle]; split <;> rfl

@[simp] theorem settle_port (s t : State) : (settle s t).port = t.port := by
  simp only [settle]; split <;> rfl

@[simp] theorem settle_settings (s t : State) : (settle s t).settings = t.settings := by
  simp only [settle]; split <;> rfl

@[simp] theorem settle_storedSettings (s t : State) : (settle s t).storedSettings = t.storedSettings := by
  simp only [settle]; split <;> rfl

@[simp] theorem settle_store (s t : State) : (settle s t).store = copies t := by
  simp only [settle]; split <;> rfl


end Sys2Proof.Machine
end

