-- ==== Sys2Proof/Laws/Ops.lean ====
section
/-! SUPPORT. What the shared operations can do, said once each: how an event and a command frame run, and which fields
each change of line state leaves as they are. -/

namespace Sys2Proof.Machine

/-! ### Events -/

/-- An event at the powered part acts and settles. -/
theorem event_of_on {f : State → State} {s : State} (h : s.power.on = true) : event f s = settle s (f s) := by
  simp only [event, h, if_true]

/-- An event does nothing without supply. -/
theorem event_of_off {f : State → State} {s : State} (h : s.power.on = false) : event f s = s := by
  simp only [event, h, Bool.false_eq_true, if_false]

/-- An event of the time base at the powered part acts at its instant and settles. -/
theorem timedEvent_of_on {t : Micros} {f : State → State} {s : State} (h : s.power.on = true) :
    timedEvent t f s = settle s (f (advanceTo t s)) := by
  simp only [timedEvent, event, h, if_true]

/-- What an event settles against counts only through its condition set. -/
theorem settle_congr {a b x : State} (h : conditions a = conditions b) : settle a x = settle b x := by
  simp only [settle, h]

/-- A timer that is stopped or not yet due has not expired. -/
theorem timerDue_of_rests {timer : Timer} {clock : Micros} (h : ∀ d, timer = some d → clock < d) :
    timerDue timer clock = false := by
  cases timer with
  | none => rfl
  | some d => exact decide_eq_false (Nat.not_le.mpr (h d rfl))

/-- An expiry that leaves a state where nothing is due as it is lets time pass alone (entry 4). -/
theorem timedEvent_of_rests {t : Micros} {f : State → State} {s : State} (h : s.power.on = true)
    (hf : f (advanceTo t s) = advanceTo t s) : timedEvent t f s = settle s (advanceTo t s) := by
  rw [timedEvent_of_on h, hf]

/-- The overflow count is below 31 before 31 periods of the timer have passed. -/
theorem settleOverflow_of_rests {awake : Micros} {p : PulseInput} (h : awake < p.timerStart + 2031616) :
    settleOverflow awake p = p := by
  have : ¬overflowCount awake p = 31 := by
    simp only [overflowCount]
    simp only [Micros] at *
    omega
  simp only [settleOverflow, this, if_false]

/-! ### The command port -/

/-- With the port ready, every answer finds room. -/
theorem freePlaces_of_ready {s : State} (h : PortReady s) : freePlaces s = 4 - s.port.responses.length := by
  simp only [freePlaces, responsePlaces, h.noneInFlight, Option.isSome_none, Bool.false_eq_true, if_false, Nat.sub_zero]

/-- With the port ready, no code is answered BUSY. -/
theorem portBusy_of_ready {s : State} (h : PortReady s) (code : Nat) : portBusy s code = false := by
  simp only [portBusy, h.noneInFlight, h.nonePending, Option.isSome_none, Bool.false_and, Bool.or_false]

/-- In normal service a command row is taken as a command frame. -/
theorem takeCommand_of_open {s : State} (h : CabOpen s) (tag : Nat) (c : Command) :
    takeCommand tag c s = settle s (takeCommandFrame c.code tag (some c) s) := by
  simp only [takeCommand, event, receiveCab, h.supplied, h.link, h.notParked, h.notWaking, h.notHoldup, if_true,
    Option.isSome_none, Bool.false_eq_true, if_false]

/-- The code of every command is a known one. -/
theorem knownCode_code (c : Command) : knownCode c.code = true := by cases c <;> rfl

/-- With the port ready, a command row runs its owner, and the owner's answer is placed and remembered. -/
theorem takeCommand_of_ready {s : State} (h : PortReady s) (tag : Nat) (c : Command) :
    takeCommand tag c s = settle s (remember c.code (runCommand c s).2.status
      (placeAnswer c.code tag (runCommand c s).2 (runCommand c s).1)) := by
  have hf : freePlaces s ≠ 0 := by
    have := h.room
    rw [freePlaces_of_ready h]
    omega
  rw [takeCommand_of_open h.toCabOpen]
  simp only [takeCommandFrame, hf, if_false, decideCommand, knownCode_code, portBusy_of_ready h, Bool.not_true,
    Bool.false_eq_true]

/-- A reply placed and remembered. -/
theorem remember_reply (code tag : Nat) (st : Status) (data : List Byte) (s : State) :
    remember code (Answer.reply st data).status (placeAnswer code tag (.reply st data) s) = replied code tag st data s := rfl

/-- A refusal, or an OK without data, placed and remembered. -/
theorem remember_plain (code tag : Nat) (st : Status) (s : State) :
    remember code (plain st).status (placeAnswer code tag (plain st) s) = replied code tag st [] s := rfl

/-- A command in flight, remembered. -/
theorem remember_inFlight (code tag : Nat) (s : State) :
    remember code Answer.inFlight.status (placeAnswer code tag .inFlight s) = inFlightOf code tag s := rfl

/-! ### Numbers that name things -/

@[simp] theorem lineOfNumber_lineNumber (l : LineId) : lineOfNumber (lineNumber l) = some l := by cases l <;> rfl

theorem lineOfNumber_eq_none {n : Nat} (h1 : n ≠ 1) (h2 : n ≠ 2) : lineOfNumber n = none := by
  unfold lineOfNumber
  split <;> first | contradiction | rfl

@[simp] theorem productOfNumber_succ (p : ProductNo) : productOfNumber (p.val + 1) = some p := by
  have := p.isLt
  simp only [productOfNumber]
  rw [dif_pos (by omega)]
  rfl

theorem productOfNumber_eq_none {n : Nat} (h : n < 1 ∨ 8 < n) : productOfNumber n = none := by
  simp only [productOfNumber]
  rw [dif_neg (by omega)]

@[simp] theorem compartmentOfNumber_succ (c : CompartmentNo) : compartmentOfNumber (c.val + 1) = some c := by
  have := c.isLt
  simp only [compartmentOfNumber]
  rw [dif_pos (by omega)]
  rfl

theorem compartmentOfNumber_eq_none {n : Nat} (h : n < 1 ∨ 6 < n) : compartmentOfNumber n = none := by
  simp only [compartmentOfNumber]
  rw [dif_neg (by omega)]

/-! ### Changes of line state, by cases -/

/-- A cause that a command brings: a stop of a moving line, a further cause in STOPPING, nothing elsewhere. -/
theorem stopOn_eq (l : LineId) (c : StopCause) (s : State) :
    stopOn l c s =
      (if s.lineState l = .flowing ∨ s.lineState l = .slowdown ∨ s.lineState l = .airHold then enterStopping l [c] s
       else if s.lineState l = .stopping then furtherCauses l [c] s
       else s) := by
  unfold stopOn
  cases s.lineState l <;> simp

/-- The rewrite request of a line appends at most one write to the queue. -/
theorem requestRewrite_eq (s : State) (l : LineId) :
    requestRewrite s l =
      { s with journal := { s.journal with
          queue := s.journal.queue ++
            (match s.lineState l, s.ctx l, s.journal.reservations.find? (fun r => decide (r.holder = .line l)) with
             | .closing, some d, some r =>
               (match r.sequence with
                | none => []
                | some q => [{ holder := .line l, sequence := q, contents := .delivery (buildRecord s l d) }])
             | _, _, _ => []) } } := by
  simp only [requestRewrite]
  split
  · split <;> simp_all
  · simp_all

/-! ### The check value of a record (R126, R128) -/

/-- A record is INTACT exactly when the stored check value is the one over its fields. -/
@[simp] theorem intact_iff (r : JournalRecord) :
    r.intact = true ↔ r.check = Config.checkValue r.sequence r.kind (storedBytes r.kind r.contents) := decide_eq_true_iff

/-- A record is DAMAGED exactly when the two differ. -/
@[simp] theorem not_intact_iff (r : JournalRecord) :
    r.intact = false ↔ r.check ≠ Config.checkValue r.sequence r.kind (storedBytes r.kind r.contents) := decide_eq_false_iff_not

/-- A completed write leaves an INTACT record. -/
theorem writtenRecord_intact (w : JournalWrite) (k : RecordKind) : (writtenRecord w k).intact = true := decide_eq_true rfl

/-- A failure of the storage medium leaves a record as it was, or, at the sequence number it reaches, with its directory
entry and with the fields and the check value that the failure carries. -/
theorem damageRecord_cases (n : Nat) (left : StoredContents) (r : JournalRecord) :
    damageRecord n left r = r ∨
      (r.sequence = n ∧
        damageRecord n left r =
          { sequence := r.sequence, kind := r.kind, released := r.released, contents := .changed left.fields,
            check := left.check }) := by
  unfold damageRecord
  split
  · exact .inr ⟨‹_›, rfl⟩
  · exact .inl rfl

/-- A failure of the storage medium keeps every directory entry. -/
@[simp] theorem damageRecord_sequence (n : Nat) (left : StoredContents) (r : JournalRecord) :
    (damageRecord n left r).sequence = r.sequence := by
  unfold damageRecord; split <;> rfl

@[simp] theorem damageRecord_kind (n : Nat) (left : StoredContents) (r : JournalRecord) :
    (damageRecord n left r).kind = r.kind := by
  unfold damageRecord; split <;> rfl

@[simp] theorem damageRecord_released (n : Nat) (left : StoredContents) (r : JournalRecord) :
    (damageRecord n left r).released = r.released := by
  unfold damageRecord; split <;> rfl

/-- The codes of every item of a CALIBRATION record name it (R124, R192). -/
@[simp] theorem recordItemOf_codes (i : RecordItem) :
    recordItemOf (recordItemCodes i).1 (recordItemCodes i).2.1 (recordItemCodes i).2.2 = some i := by
  have h : ∀ sel : ItemSel,
      selectorOf (selectorCodes sel).1 (selectorCodes sel).2.1 (selectorCodes sel).2.2 = some sel := by
    intro sel
    cases sel with
    | band l i => cases l <;> (revert i; decide)
    | pumpStopId => rfl
    | defined p => revert p; decide
    | alpha p => revert p; decide
    | beta p => revert p; decide
    | tref p => revert p; decide
    | basis p => revert p; decide
    | _ l => cases l <;> rfl
  match i with
  | .item sel => simp only [recordItemOf, recordItemCodes, h]
  | .credential .inspector => rfl
  | .credential .fleet => rfl
  | .lock => rfl

/-- What written fields spell, and that a delivery spells no calibration record. -/
@[simp] theorem calibrationOf_written (c : CalibrationRecord) : calibrationOf (.written (.calibration c)) = some c := rfl

@[simp] theorem calibrationOf_delivery (d : DeliveryRecord) : calibrationOf (.written (.delivery d)) = none := rfl

/-- Written fields read out as the write built them. -/
@[simp] theorem storedMask_written (c : Contents) : storedMask (.written c) = recordMask c := rfl

@[simp] theorem storedFields1_written (k : RecordKind) (c : Contents) :
    storedFields1 k (.written c) = recordFields1 c := rfl

@[simp] theorem storedFields2_written (k : RecordKind) (c : Contents) :
    storedFields2 k (.written c) = recordFields2 c := rfl

/-- The fields of every part of a record take the bytes of its kind. -/
theorem storedFields1_changed_length (k : RecordKind) (f : RawFields) :
    (storedFields1 k (.changed f)).length = (fieldBytes k).1 := by
  cases k <;> rfl

theorem storedFields2_changed_length (k : RecordKind) (f : RawFields) :
    (storedFields2 k (.changed f)).length = (fieldBytes k).2 := by
  cases k <;> rfl

/-- Records of the same number, kind and stored bytes have the same check value (R128; entry 11). -/
theorem computedCheck_congr {r x : JournalRecord} (hs : r.sequence = x.sequence) (hk : r.kind = x.kind)
    (hb : storedBytes r.kind r.contents = storedBytes x.kind x.contents) : r.computedCheck = x.computedCheck := by
  unfold JournalRecord.computedCheck
  rw [hb, hs, hk]

/-- The power-on check of an INTACT CALIBRATION record: it is applied when it bears the stored event count plus 1. -/
theorem checkRecord_of_intact {r : JournalRecord} {c : CalibrationRecord} (s : State)
    (h : r.check = Config.checkValue r.sequence r.kind (storedBytes r.kind r.contents)) (hc : calibrationOf r.contents = some c) :
    checkRecord r s = if c.newCount = s.cal.eventCount + 1 then rollForward c s else s := by
  simp [checkRecord, (intact_iff r).mpr h, hc]

/-- The power-on check of an INTACT record whose fields name no item: nothing happens (entry 34). -/
theorem checkRecord_of_unnamed {r : JournalRecord} (s : State)
    (h : r.check = Config.checkValue r.sequence r.kind (storedBytes r.kind r.contents)) (hc : calibrationOf r.contents = none) :
    checkRecord r s = s := by
  simp [checkRecord, (intact_iff r).mpr h, hc]

/-- The power-on check of a DAMAGED record: it is discarded, and JOURNAL_DAMAGE made active. -/
theorem checkRecord_of_damaged {r : JournalRecord} (s : State)
    (h : r.check ≠ Config.checkValue r.sequence r.kind (storedBytes r.kind r.contents)) :
    checkRecord r s = { s with journal := discardRecord r.sequence s.journal, journalDamage := true } := by
  simp [checkRecord, (not_intact_iff r).mpr h]

/-- Power-on with an INTACT newest CALIBRATION record: it is rolled forward when it bears the stored event count plus 1,
after the journal's repair and before the lock comes up (R135, R196). -/
theorem restore_of_intact {s : State} {r : JournalRecord} {c : CalibrationRecord} (keep : Bool)
    (hn : newestCalibration s.journal = some r) (h : r.check = Config.checkValue r.sequence r.kind (storedBytes r.kind r.contents))
    (hc : calibrationOf r.contents = some c) :
    restore keep s = requestRewrites (restoreLock
      (if c.newCount = s.cal.eventCount + 1 then rollForward c (repairJournal (restoreVolatile keep s))
       else repairJournal (restoreVolatile keep s))) := by
  have hn' : newestCalibration (repairJournal (restoreVolatile keep s)).journal = some r := hn
  simp only [restore, checkNewestCalibration, hn', checkRecord_of_intact _ h hc]
  rfl

/-- A record does the same at the completion of its write and at a roll-forward, where one of the fleet credential bears the
level in effect, as every accepted one does (R148, R150, R156). -/
theorem rollForward_eq_completeRecord {r : CalibrationRecord} {s : State}
    (h : r.item = .credential .fleet → valueStrict r.newValue = s.lock.strict) : rollForward r s = completeRecord r s := by
  unfold rollForward completeRecord applyRecord
  rcases hi : r.item with sel | which | _
  · rfl
  · cases which
    · simp [h hi]
    · rfl
  · rfl

/-- The newest CALIBRATION record is one of the CALIBRATION records, and none of them has a greater number (R135). -/
theorem newestCalibration_some {j : Journal} {r : JournalRecord} (h : newestCalibration j = some r) :
    r ∈ j.records ∧ r.kind = .calibration ∧
      ∀ x ∈ j.records, x.kind = .calibration → x.sequence ≤ r.sequence := by
  obtain ⟨q, hq, hf⟩ := Option.bind_eq_some_iff.mp h
  have hm := List.mem_filter.mp (List.mem_of_find?_eq_some hf)
  have hs : r.sequence = q := by simpa using List.find?_some hf
  refine ⟨hm.1, of_decide_eq_true hm.2, fun x hx hk => ?_⟩
  exact hs ▸ (List.max?_eq_some_iff.mp hq).2 _
    (List.mem_map_of_mem (List.mem_filter.mpr ⟨hx, decide_eq_true hk⟩))

/-- RESTART, by cases: refused with STATE, or pending with the slots emptied (R115, R200). -/
theorem ownerRestart_cases {s t : State} {a : Answer} (h : ownerRestart s = (t, a)) :
    (bothIdle s = false ∧ t = s ∧ a = plain .state) ∨
      (bothIdle s = true ∧ t = setPending .restart (emptySlots s) ∧ a = plain .ok) := by
  unfold ownerRestart at h
  cases hb : bothIdle s <;> simp only [hb] at h <;> cases h
  · exact .inl ⟨rfl, rfl, rfl⟩
  · exact .inr ⟨rfl, rfl, rfl⟩

/-! ### Calibration items after a change (R140, R141) -/

/-- The items of a line after a change of one line's items. -/
@[simp] theorem Calibration.modLine_lines_get (c : Calibration) (l m : LineId) (f : LineCalibration → LineCalibration) :
    (c.modLine l f).lines.get m = if l = m then f (c.lines.get l) else c.lines.get m := by
  cases l <;> cases m <;> rfl

@[simp] theorem Calibration.modLine_products (c : Calibration) (l : LineId) (f : LineCalibration → LineCalibration) :
    (c.modLine l f).products = c.products := rfl

@[simp] theorem Calibration.modLine_pumpStopId (c : Calibration) (l : LineId) (f : LineCalibration → LineCalibration) :
    (c.modLine l f).pumpStopId = c.pumpStopId := rfl

/-- A product record after a change of one product record. -/
@[simp] theorem Calibration.modProduct_products (c : Calibration) (p q : ProductNo) (f : Product → Product) :
    (c.modProduct p f).products[q] = if p = q then f c.products[p] else c.products[q] := by
  by_cases h : p = q
  · subst h; simp [Calibration.modProduct]
  · have hv : p.val ≠ q.val := fun e => h (Fin.ext e)
    simp [Calibration.modProduct, h, hv]

@[simp] theorem Calibration.modProduct_lines (c : Calibration) (p : ProductNo) (f : Product → Product) :
    (c.modProduct p f).lines = c.lines := rfl

@[simp] theorem Calibration.modProduct_pumpStopId (c : Calibration) (p : ProductNo) (f : Product → Product) :
    (c.modProduct p f).pumpStopId = c.pumpStopId := rfl

/-- The entries of a band table after a band write at or before its end. -/
theorem writeBand_getElem? {i : Nat} {bands : List Band} (b : Band) (h : i ≤ bands.length) (j : Nat) :
    (writeBand i b bands)[j]? = if i = j then some b else bands[j]? := by
  unfold writeBand
  split
  · by_cases e : i = j
    · subst e; simp [*]
    · simp [List.getElem?_set_ne e, e]
  · have hi : i = bands.length := by omega
    subst hi
    rw [List.getElem?_append]
    split
    · rw [if_neg (by omega)]
    · by_cases e : bands.length = j
      · subst e; simp
      · rw [if_neg e, List.getElem?_eq_none (l := bands) (by omega)]
        exact List.getElem?_eq_none (by simp; omega)

/-- The used count after a band write at or before the end of the table. -/
theorem writeBand_length {i : Nat} {bands : List Band} (b : Band) (h : i ≤ bands.length) :
    (writeBand i b bands).length = max bands.length (i + 1) := by
  unfold writeBand
  split <;> simp <;> omega

/-! ### What each change of line state leaves as it is -/

@[simp] theorem askStage_pending (l : LineId) (s : State) : (askStage l s).pending = s.pending := by
  simp only [askStage]
  (repeat' split) <;> simp

@[simp] theorem askStage_now (l : LineId) (s : State) : (askStage l s).now = s.now := by
  simp only [askStage]
  (repeat' split) <;> simp

@[simp] theorem askStage_awake (l : LineId) (s : State) : (askStage l s).awake = s.awake := by
  simp only [askStage]
  (repeat' split) <;> simp

@[simp] theorem askStage_clock (l : LineId) (s : State) : (askStage l s).clock = s.clock := by
  simp only [askStage]
  (repeat' split) <;> simp

@[simp] theorem askStage_power (l : LineId) (s : State) : (askStage l s).power = s.power := by
  simp only [askStage]
  (repeat' split) <;> simp

@[simp] theorem askStage_levels (l : LineId) (s : State) : (askStage l s).levels = s.levels := by
  simp only [askStage]
  (repeat' split) <;> simp

@[simp] theorem askStage_pulse (l : LineId) (s : State) : (askStage l s).pulse = s.pulse := by
  simp only [askStage]
  (repeat' split) <;> simp

@[simp] theorem askStage_pumpSlot (l : LineId) (s : State) : (askStage l s).pumpSlot = s.pumpSlot := by
  simp only [askStage]
  (repeat' split) <;> simp

@[simp] theorem askStage_compartments (l : LineId) (s : State) : (askStage l s).compartments = s.compartments := by
  simp only [askStage]
  (repeat' split) <;> simp

@[simp] theorem askStage_orders (l : LineId) (s : State) : (askStage l s).orders = s.orders := by
  simp only [askStage]
  (repeat' split) <;> simp

@[simp] theorem askStage_journal (l : LineId) (s : State) : (askStage l s).journal = s.journal := by
  simp only [askStage]
  (repeat' split) <;> simp

@[simp] theorem askStage_journalDamage (l : LineId) (s : State) : (askStage l s).journalDamage = s.journalDamage := by
  simp only [askStage]
  (repeat' split) <;> simp

@[simp] theorem askStage_cal (l : LineId) (s : State) : (askStage l s).cal = s.cal := by
  simp only [askStage]
  (repeat' split) <;> simp

@[simp] theorem askStage_lock (l : LineId) (s : State) : (askStage l s).lock = s.lock := by
  simp only [askStage]
  (repeat' split) <;> simp

@[simp] theorem askStage_forward (l : LineId) (s : State) : (askStage l s).forward = s.forward := by
  simp only [askStage]
  (repeat' split) <;> simp

@[simp] theorem askStage_port (l : LineId) (s : State) : (askStage l s).port = s.port := by
  simp only [askStage]
  (repeat' split) <;> simp

@[simp] theorem askStage_settings (l : LineId) (s : State) : (askStage l s).settings = s.settings := by
  simp only [askStage]
  (repeat' split) <;> simp

@[simp] theorem askStage_storedSettings (l : LineId) (s : State) : (askStage l s).storedSettings = s.storedSettings := by
  simp only [askStage]
  (repeat' split) <;> simp

@[simp] theorem askStage_store (l : LineId) (s : State) : (askStage l s).store = s.store := by
  simp only [askStage]
  (repeat' split) <;> simp

@[simp] theorem enterState_pending (l : LineId) (st : LineState) (s : State) : (enterState l st s).pending = s.pending := by
  simp only [enterState]
  simp

@[simp] theorem enterState_now (l : LineId) (st : LineState) (s : State) : (enterState l st s).now = s.now := by
  simp only [enterState]
  simp

@[simp] theorem enterState_awake (l : LineId) (st : LineState) (s : State) : (enterState l st s).awake = s.awake := by
  simp only [enterState]
  simp

@[simp] theorem enterState_clock (l : LineId) (st : LineState) (s : State) : (enterState l st s).clock = s.clock := by
  simp only [enterState]
  simp

@[simp] theorem enterState_power (l : LineId) (st : LineState) (s : State) : (enterState l st s).power = s.power := by
  simp only [enterState]
  simp

@[simp] theorem enterState_levels (l : LineId) (st : LineState) (s : State) : (enterState l st s).levels = s.levels := by
  simp only [enterState]
  simp

@[simp] theorem enterState_pulse (l : LineId) (st : LineState) (s : State) : (enterState l st s).pulse = s.pulse := by
  simp only [enterState]
  simp

@[simp] theorem enterState_pumpSlot (l : LineId) (st : LineState) (s : State) : (enterState l st s).pumpSlot = s.pumpSlot := by
  simp only [enterState]
  simp

@[simp] theorem enterState_compartments (l : LineId) (st : LineState) (s : State) : (enterState l st s).compartments = s.compartments := by
  simp only [enterState]
  simp

@[simp] theorem enterState_orders (l : LineId) (st : LineState) (s : State) : (enterState l st s).orders = s.orders := by
  simp only [enterState]
  simp

@[simp] theorem enterState_journal (l : LineId) (st : LineState) (s : State) : (enterState l st s).journal = s.journal := by
  simp only [enterState]
  simp

@[simp] theorem enterState_journalDamage (l : LineId) (st : LineState) (s : State) : (enterState l st s).journalDamage = s.journalDamage := by
  simp only [enterState]
  simp

@[simp] theorem enterState_cal (l : LineId) (st : LineState) (s : State) : (enterState l st s).cal = s.cal := by
  simp only [enterState]
  simp

@[simp] theorem enterState_lock (l : LineId) (st : LineState) (s : State) : (enterState l st s).lock = s.lock := by
  simp only [enterState]
  simp

@[simp] theorem enterState_forward (l : LineId) (st : LineState) (s : State) : (enterState l st s).forward = s.forward := by
  simp only [enterState]
  simp

@[simp] theorem enterState_port (l : LineId) (st : LineState) (s : State) : (enterState l st s).port = s.port := by
  simp only [enterState]
  simp

@[simp] theorem enterState_settings (l : LineId) (st : LineState) (s : State) : (enterState l st s).settings = s.settings := by
  simp only [enterState]
  simp

@[simp] theorem enterState_storedSettings (l : LineId) (st : LineState) (s : State) : (enterState l st s).storedSettings = s.storedSettings := by
  simp only [enterState]
  simp

@[simp] theorem enterState_store (l : LineId) (st : LineState) (s : State) : (enterState l st s).store = s.store := by
  simp only [enterState]
  simp

@[simp] theorem enterStopping_pending (l : LineId) (cs : List StopCause) (s : State) : (enterStopping l cs s).pending = s.pending := by
  simp only [enterStopping]
  simp

@[simp] theorem enterStopping_now (l : LineId) (cs : List StopCause) (s : State) : (enterStopping l cs s).now = s.now := by
  simp only [enterStopping]
  simp

@[simp] theorem enterStopping_awake (l : LineId) (cs : List StopCause) (s : State) : (enterStopping l cs s).awake = s.awake := by
  simp only [enterStopping]
  simp

@[simp] theorem enterStopping_clock (l : LineId) (cs : List StopCause) (s : State) : (enterStopping l cs s).clock = s.clock := by
  simp only [enterStopping]
  simp

@[simp] theorem enterStopping_power (l : LineId) (cs : List StopCause) (s : State) : (enterStopping l cs s).power = s.power := by
  simp only [enterStopping]
  simp

@[simp] theorem enterStopping_levels (l : LineId) (cs : List StopCause) (s : State) : (enterStopping l cs s).levels = s.levels := by
  simp only [enterStopping]
  simp

@[simp] theorem enterStopping_pulse (l : LineId) (cs : List StopCause) (s : State) : (enterStopping l cs s).pulse = s.pulse := by
  simp only [enterStopping]
  simp

@[simp] theorem enterStopping_pumpSlot (l : LineId) (cs : List StopCause) (s : State) : (enterStopping l cs s).pumpSlot = s.pumpSlot := by
  simp only [enterStopping]
  simp

@[simp] theorem enterStopping_compartments (l : LineId) (cs : List StopCause) (s : State) : (enterStopping l cs s).compartments = s.compartments := by
  simp only [enterStopping]
  simp

@[simp] theorem enterStopping_orders (l : LineId) (cs : List StopCause) (s : State) : (enterStopping l cs s).orders = s.orders := by
  simp only [enterStopping]
  simp

@[simp] theorem enterStopping_journal (l : LineId) (cs : List StopCause) (s : State) : (enterStopping l cs s).journal = s.journal := by
  simp only [enterStopping]
  simp

@[simp] theorem enterStopping_journalDamage (l : LineId) (cs : List StopCause) (s : State) : (enterStopping l cs s).journalDamage = s.journalDamage := by
  simp only [enterStopping]
  simp

@[simp] theorem enterStopping_cal (l : LineId) (cs : List StopCause) (s : State) : (enterStopping l cs s).cal = s.cal := by
  simp only [enterStopping]
  simp

@[simp] theorem enterStopping_lock (l : LineId) (cs : List StopCause) (s : State) : (enterStopping l cs s).lock = s.lock := by
  simp only [enterStopping]
  simp

@[simp] theorem enterStopping_forward (l : LineId) (cs : List StopCause) (s : State) : (enterStopping l cs s).forward = s.forward := by
  simp only [enterStopping]
  simp

@[simp] theorem enterStopping_port (l : LineId) (cs : List StopCause) (s : State) : (enterStopping l cs s).port = s.port := by
  simp only [enterStopping]
  simp

@[simp] theorem enterStopping_settings (l : LineId) (cs : List StopCause) (s : State) : (enterStopping l cs s).settings = s.settings := by
  simp only [enterStopping]
  simp

@[simp] theorem enterStopping_storedSettings (l : LineId) (cs : List StopCause) (s : State) : (enterStopping l cs s).storedSettings = s.storedSettings := by
  simp only [enterStopping]
  simp

@[simp] theorem enterStopping_store (l : LineId) (cs : List StopCause) (s : State) : (enterStopping l cs s).store = s.store := by
  simp only [enterStopping]
  simp

@[simp] theorem furtherCauses_pending (l : LineId) (cs : List StopCause) (s : State) : (furtherCauses l cs s).pending = s.pending := by
  simp only [furtherCauses]
  simp

@[simp] theorem furtherCauses_now (l : LineId) (cs : List StopCause) (s : State) : (furtherCauses l cs s).now = s.now := by
  simp only [furtherCauses]
  simp

@[simp] theorem furtherCauses_awake (l : LineId) (cs : List StopCause) (s : State) : (furtherCauses l cs s).awake = s.awake := by
  simp only [furtherCauses]
  simp

@[simp] theorem furtherCauses_clock (l : LineId) (cs : List StopCause) (s : State) : (furtherCauses l cs s).clock = s.clock := by
  simp only [furtherCauses]
  simp

@[simp] theorem furtherCauses_power (l : LineId) (cs : List StopCause) (s : State) : (furtherCauses l cs s).power = s.power := by
  simp only [furtherCauses]
  simp

@[simp] theorem furtherCauses_levels (l : LineId) (cs : List StopCause) (s : State) : (furtherCauses l cs s).levels = s.levels := by
  simp only [furtherCauses]
  simp

@[simp] theorem furtherCauses_pulse (l : LineId) (cs : List StopCause) (s : State) : (furtherCauses l cs s).pulse = s.pulse := by
  simp only [furtherCauses]
  simp

@[simp] theorem furtherCauses_pumpSlot (l : LineId) (cs : List StopCause) (s : State) : (furtherCauses l cs s).pumpSlot = s.pumpSlot := by
  simp only [furtherCauses]
  simp

@[simp] theorem furtherCauses_compartments (l : LineId) (cs : List StopCause) (s : State) : (furtherCauses l cs s).compartments = s.compartments := by
  simp only [furtherCauses]
  simp

@[simp] theorem furtherCauses_orders (l : LineId) (cs : List StopCause) (s : State) : (furtherCauses l cs s).orders = s.orders := by
  simp only [furtherCauses]
  simp

@[simp] theorem furtherCauses_journal (l : LineId) (cs : List StopCause) (s : State) : (furtherCauses l cs s).journal = s.journal := by
  simp only [furtherCauses]
  simp

@[simp] theorem furtherCauses_journalDamage (l : LineId) (cs : List StopCause) (s : State) : (furtherCauses l cs s).journalDamage = s.journalDamage := by
  simp only [furtherCauses]
  simp

@[simp] theorem furtherCauses_cal (l : LineId) (cs : List StopCause) (s : State) : (furtherCauses l cs s).cal = s.cal := by
  simp only [furtherCauses]
  simp

@[simp] theorem furtherCauses_lock (l : LineId) (cs : List StopCause) (s : State) : (furtherCauses l cs s).lock = s.lock := by
  simp only [furtherCauses]
  simp

@[simp] theorem furtherCauses_forward (l : LineId) (cs : List StopCause) (s : State) : (furtherCauses l cs s).forward = s.forward := by
  simp only [furtherCauses]
  simp

@[simp] theorem furtherCauses_port (l : LineId) (cs : List StopCause) (s : State) : (furtherCauses l cs s).port = s.port := by
  simp only [furtherCauses]
  simp

@[simp] theorem furtherCauses_settings (l : LineId) (cs : List StopCause) (s : State) : (furtherCauses l cs s).settings = s.settings := by
  simp only [furtherCauses]
  simp

@[simp] theorem furtherCauses_storedSettings (l : LineId) (cs : List StopCause) (s : State) : (furtherCauses l cs s).storedSettings = s.storedSettings := by
  simp only [furtherCauses]
  simp

@[simp] theorem furtherCauses_store (l : LineId) (cs : List StopCause) (s : State) : (furtherCauses l cs s).store = s.store := by
  simp only [furtherCauses]
  simp

@[simp] theorem enterSuspended_pending (l : LineId) (cs : List StopCause) (s : State) : (enterSuspended l cs s).pending = s.pending := by
  simp only [enterSuspended]
  simp

@[simp] theorem enterSuspended_now (l : LineId) (cs : List StopCause) (s : State) : (enterSuspended l cs s).now = s.now := by
  simp only [enterSuspended]
  simp

@[simp] theorem enterSuspended_awake (l : LineId) (cs : List StopCause) (s : State) : (enterSuspended l cs s).awake = s.awake := by
  simp only [enterSuspended]
  simp

@[simp] theorem enterSuspended_clock (l : LineId) (cs : List StopCause) (s : State) : (enterSuspended l cs s).clock = s.clock := by
  simp only [enterSuspended]
  simp

@[simp] theorem enterSuspended_power (l : LineId) (cs : List StopCause) (s : State) : (enterSuspended l cs s).power = s.power := by
  simp only [enterSuspended]
  simp

@[simp] theorem enterSuspended_levels (l : LineId) (cs : List StopCause) (s : State) : (enterSuspended l cs s).levels = s.levels := by
  simp only [enterSuspended]
  simp

@[simp] theorem enterSuspended_pulse (l : LineId) (cs : List StopCause) (s : State) : (enterSuspended l cs s).pulse = s.pulse := by
  simp only [enterSuspended]
  simp

@[simp] theorem enterSuspended_pumpSlot (l : LineId) (cs : List StopCause) (s : State) : (enterSuspended l cs s).pumpSlot = s.pumpSlot := by
  simp only [enterSuspended]
  simp

@[simp] theorem enterSuspended_compartments (l : LineId) (cs : List StopCause) (s : State) : (enterSuspended l cs s).compartments = s.compartments := by
  simp only [enterSuspended]
  simp

@[simp] theorem enterSuspended_orders (l : LineId) (cs : List StopCause) (s : State) : (enterSuspended l cs s).orders = s.orders := by
  simp only [enterSuspended]
  simp

@[simp] theorem enterSuspended_journal (l : LineId) (cs : List StopCause) (s : State) : (enterSuspended l cs s).journal = s.journal := by
  simp only [enterSuspended]
  simp

@[simp] theorem enterSuspended_journalDamage (l : LineId) (cs : List StopCause) (s : State) : (enterSuspended l cs s).journalDamage = s.journalDamage := by
  simp only [enterSuspended]
  simp

@[simp] theorem enterSuspended_cal (l : LineId) (cs : List StopCause) (s : State) : (enterSuspended l cs s).cal = s.cal := by
  simp only [enterSuspended]
  simp

@[simp] theorem enterSuspended_lock (l : LineId) (cs : List StopCause) (s : State) : (enterSuspended l cs s).lock = s.lock := by
  simp only [enterSuspended]
  simp

@[simp] theorem enterSuspended_forward (l : LineId) (cs : List StopCause) (s : State) : (enterSuspended l cs s).forward = s.forward := by
  simp only [enterSuspended]
  simp

@[simp] theorem enterSuspended_port (l : LineId) (cs : List StopCause) (s : State) : (enterSuspended l cs s).port = s.port := by
  simp only [enterSuspended]
  simp

@[simp] theorem enterSuspended_settings (l : LineId) (cs : List StopCause) (s : State) : (enterSuspended l cs s).settings = s.settings := by
  simp only [enterSuspended]
  simp

@[simp] theorem enterSuspended_storedSettings (l : LineId) (cs : List StopCause) (s : State) : (enterSuspended l cs s).storedSettings = s.storedSettings := by
  simp only [enterSuspended]
  simp

@[simp] theorem enterSuspended_store (l : LineId) (cs : List StopCause) (s : State) : (enterSuspended l cs s).store = s.store := by
  simp only [enterSuspended]
  simp

@[simp] theorem enterAirHold_pending (l : LineId) (r : ResumeState) (s : State) : (enterAirHold l r s).pending = s.pending := by
  simp only [enterAirHold]
  simp

@[simp] theorem enterAirHold_now (l : LineId) (r : ResumeState) (s : State) : (enterAirHold l r s).now = s.now := by
  simp only [enterAirHold]
  simp

@[simp] theorem enterAirHold_awake (l : LineId) (r : ResumeState) (s : State) : (enterAirHold l r s).awake = s.awake := by
  simp only [enterAirHold]
  simp

@[simp] theorem enterAirHold_clock (l : LineId) (r : ResumeState) (s : State) : (enterAirHold l r s).clock = s.clock := by
  simp only [enterAirHold]
  simp

@[simp] theorem enterAirHold_power (l : LineId) (r : ResumeState) (s : State) : (enterAirHold l r s).power = s.power := by
  simp only [enterAirHold]
  simp

@[simp] theorem enterAirHold_levels (l : LineId) (r : ResumeState) (s : State) : (enterAirHold l r s).levels = s.levels := by
  simp only [enterAirHold]
  simp

@[simp] theorem enterAirHold_pulse (l : LineId) (r : ResumeState) (s : State) : (enterAirHold l r s).pulse = s.pulse := by
  simp only [enterAirHold]
  simp

@[simp] theorem enterAirHold_pumpSlot (l : LineId) (r : ResumeState) (s : State) : (enterAirHold l r s).pumpSlot = s.pumpSlot := by
  simp only [enterAirHold]
  simp

@[simp] theorem enterAirHold_compartments (l : LineId) (r : ResumeState) (s : State) : (enterAirHold l r s).compartments = s.compartments := by
  simp only [enterAirHold]
  simp

@[simp] theorem enterAirHold_orders (l : LineId) (r : ResumeState) (s : State) : (enterAirHold l r s).orders = s.orders := by
  simp only [enterAirHold]
  simp

@[simp] theorem enterAirHold_journal (l : LineId) (r : ResumeState) (s : State) : (enterAirHold l r s).journal = s.journal := by
  simp only [enterAirHold]
  simp

@[simp] theorem enterAirHold_journalDamage (l : LineId) (r : ResumeState) (s : State) : (enterAirHold l r s).journalDamage = s.journalDamage := by
  simp only [enterAirHold]
  simp

@[simp] theorem enterAirHold_cal (l : LineId) (r : ResumeState) (s : State) : (enterAirHold l r s).cal = s.cal := by
  simp only [enterAirHold]
  simp

@[simp] theorem enterAirHold_lock (l : LineId) (r : ResumeState) (s : State) : (enterAirHold l r s).lock = s.lock := by
  simp only [enterAirHold]
  simp

@[simp] theorem enterAirHold_forward (l : LineId) (r : ResumeState) (s : State) : (enterAirHold l r s).forward = s.forward := by
  simp only [enterAirHold]
  simp

@[simp] theorem enterAirHold_port (l : LineId) (r : ResumeState) (s : State) : (enterAirHold l r s).port = s.port := by
  simp only [enterAirHold]
  simp

@[simp] theorem enterAirHold_settings (l : LineId) (r : ResumeState) (s : State) : (enterAirHold l r s).settings = s.settings := by
  simp only [enterAirHold]
  simp

@[simp] theorem enterAirHold_storedSettings (l : LineId) (r : ResumeState) (s : State) : (enterAirHold l r s).storedSettings = s.storedSettings := by
  simp only [enterAirHold]
  simp

@[simp] theorem enterAirHold_store (l : LineId) (r : ResumeState) (s : State) : (enterAirHold l r s).store = s.store := by
  simp only [enterAirHold]
  simp

@[simp] theorem stopOn_pending (l : LineId) (c : StopCause) (s : State) : (stopOn l c s).pending = s.pending := by
  simp only [stopOn]
  split <;> simp

@[simp] theorem stopOn_now (l : LineId) (c : StopCause) (s : State) : (stopOn l c s).now = s.now := by
  simp only [stopOn]
  split <;> simp

@[simp] theorem stopOn_awake (l : LineId) (c : StopCause) (s : State) : (stopOn l c s).awake = s.awake := by
  simp only [stopOn]
  split <;> simp

@[simp] theorem stopOn_clock (l : LineId) (c : StopCause) (s : State) : (stopOn l c s).clock = s.clock := by
  simp only [stopOn]
  split <;> simp

@[simp] theorem stopOn_power (l : LineId) (c : StopCause) (s : State) : (stopOn l c s).power = s.power := by
  simp only [stopOn]
  split <;> simp

@[simp] theorem stopOn_levels (l : LineId) (c : StopCause) (s : State) : (stopOn l c s).levels = s.levels := by
  simp only [stopOn]
  split <;> simp

@[simp] theorem stopOn_pulse (l : LineId) (c : StopCause) (s : State) : (stopOn l c s).pulse = s.pulse := by
  simp only [stopOn]
  split <;> simp

@[simp] theorem stopOn_pumpSlot (l : LineId) (c : StopCause) (s : State) : (stopOn l c s).pumpSlot = s.pumpSlot := by
  simp only [stopOn]
  split <;> simp

@[simp] theorem stopOn_compartments (l : LineId) (c : StopCause) (s : State) : (stopOn l c s).compartments = s.compartments := by
  simp only [stopOn]
  split <;> simp

@[simp] theorem stopOn_orders (l : LineId) (c : StopCause) (s : State) : (stopOn l c s).orders = s.orders := by
  simp only [stopOn]
  split <;> simp

@[simp] theorem stopOn_journal (l : LineId) (c : StopCause) (s : State) : (stopOn l c s).journal = s.journal := by
  simp only [stopOn]
  split <;> simp

@[simp] theorem stopOn_journalDamage (l : LineId) (c : StopCause) (s : State) : (stopOn l c s).journalDamage = s.journalDamage := by
  simp only [stopOn]
  split <;> simp

@[simp] theorem stopOn_cal (l : LineId) (c : StopCause) (s : State) : (stopOn l c s).cal = s.cal := by
  simp only [stopOn]
  split <;> simp

@[simp] theorem stopOn_lock (l : LineId) (c : StopCause) (s : State) : (stopOn l c s).lock = s.lock := by
  simp only [stopOn]
  split <;> simp

@[simp] theorem stopOn_forward (l : LineId) (c : StopCause) (s : State) : (stopOn l c s).forward = s.forward := by
  simp only [stopOn]
  split <;> simp

@[simp] theorem stopOn_port (l : LineId) (c : StopCause) (s : State) : (stopOn l c s).port = s.port := by
  simp only [stopOn]
  split <;> simp

@[simp] theorem stopOn_settings (l : LineId) (c : StopCause) (s : State) : (stopOn l c s).settings = s.settings := by
  simp only [stopOn]
  split <;> simp

@[simp] theorem stopOn_storedSettings (l : LineId) (c : StopCause) (s : State) : (stopOn l c s).storedSettings = s.storedSettings := by
  simp only [stopOn]
  split <;> simp

@[simp] theorem stopOn_store (l : LineId) (c : StopCause) (s : State) : (stopOn l c s).store = s.store := by
  simp only [stopOn]
  split <;> simp

@[simp] theorem adaptCloseAhead_pending (l : LineId) (s : State) : (adaptCloseAhead l s).pending = s.pending := by
  simp only [adaptCloseAhead]
  (repeat' split) <;> rfl

@[simp] theorem adaptCloseAhead_now (l : LineId) (s : State) : (adaptCloseAhead l s).now = s.now := by
  simp only [adaptCloseAhead]
  (repeat' split) <;> rfl

@[simp] theorem adaptCloseAhead_awake (l : LineId) (s : State) : (adaptCloseAhead l s).awake = s.awake := by
  simp only [adaptCloseAhead]
  (repeat' split) <;> rfl

@[simp] theorem adaptCloseAhead_clock (l : LineId) (s : State) : (adaptCloseAhead l s).clock = s.clock := by
  simp only [adaptCloseAhead]
  (repeat' split) <;> rfl

@[simp] theorem adaptCloseAhead_power (l : LineId) (s : State) : (adaptCloseAhead l s).power = s.power := by
  simp only [adaptCloseAhead]
  (repeat' split) <;> rfl

@[simp] theorem adaptCloseAhead_levels (l : LineId) (s : State) : (adaptCloseAhead l s).levels = s.levels := by
  simp only [adaptCloseAhead]
  (repeat' split) <;> rfl

@[simp] theorem adaptCloseAhead_pulse (l : LineId) (s : State) : (adaptCloseAhead l s).pulse = s.pulse := by
  simp only [adaptCloseAhead]
  (repeat' split) <;> rfl

@[simp] theorem adaptCloseAhead_pumpSlot (l : LineId) (s : State) : (adaptCloseAhead l s).pumpSlot = s.pumpSlot := by
  simp only [adaptCloseAhead]
  (repeat' split) <;> rfl

@[simp] theorem adaptCloseAhead_compartments (l : LineId) (s : State) : (adaptCloseAhead l s).compartments = s.compartments := by
  simp only [adaptCloseAhead]
  (repeat' split) <;> rfl

@[simp] theorem adaptCloseAhead_orders (l : LineId) (s : State) : (adaptCloseAhead l s).orders = s.orders := by
  simp only [adaptCloseAhead]
  (repeat' split) <;> rfl

@[simp] theorem adaptCloseAhead_journal (l : LineId) (s : State) : (adaptCloseAhead l s).journal = s.journal := by
  simp only [adaptCloseAhead]
  (repeat' split) <;> rfl

@[simp] theorem adaptCloseAhead_journalDamage (l : LineId) (s : State) : (adaptCloseAhead l s).journalDamage = s.journalDamage := by
  simp only [adaptCloseAhead]
  (repeat' split) <;> rfl

@[simp] theorem adaptCloseAhead_cal (l : LineId) (s : State) : (adaptCloseAhead l s).cal = s.cal := by
  simp only [adaptCloseAhead]
  (repeat' split) <;> rfl

@[simp] theorem adaptCloseAhead_lock (l : LineId) (s : State) : (adaptCloseAhead l s).lock = s.lock := by
  simp only [adaptCloseAhead]
  (repeat' split) <;> rfl

@[simp] theorem adaptCloseAhead_forward (l : LineId) (s : State) : (adaptCloseAhead l s).forward = s.forward := by
  simp only [adaptCloseAhead]
  (repeat' split) <;> rfl

@[simp] theorem adaptCloseAhead_port (l : LineId) (s : State) : (adaptCloseAhead l s).port = s.port := by
  simp only [adaptCloseAhead]
  (repeat' split) <;> rfl

@[simp] theorem adaptCloseAhead_store (l : LineId) (s : State) : (adaptCloseAhead l s).store = s.store := by
  simp only [adaptCloseAhead]
  (repeat' split) <;> rfl

@[simp] theorem completeStopping_pending (l : LineId) (s : State) : (completeStopping l s).pending = s.pending := by
  simp only [completeStopping]
  (repeat' split) <;> simp

@[simp] theorem completeStopping_now (l : LineId) (s : State) : (completeStopping l s).now = s.now := by
  simp only [completeStopping]
  (repeat' split) <;> simp

@[simp] theorem completeStopping_awake (l : LineId) (s : State) : (completeStopping l s).awake = s.awake := by
  simp only [completeStopping]
  (repeat' split) <;> simp

@[simp] theorem completeStopping_clock (l : LineId) (s : State) : (completeStopping l s).clock = s.clock := by
  simp only [completeStopping]
  (repeat' split) <;> simp

@[simp] theorem completeStopping_power (l : LineId) (s : State) : (completeStopping l s).power = s.power := by
  simp only [completeStopping]
  (repeat' split) <;> simp

@[simp] theorem completeStopping_levels (l : LineId) (s : State) : (completeStopping l s).levels = s.levels := by
  simp only [completeStopping]
  (repeat' split) <;> simp

@[simp] theorem completeStopping_pulse (l : LineId) (s : State) : (completeStopping l s).pulse = s.pulse := by
  simp only [completeStopping]
  (repeat' split) <;> simp

@[simp] theorem completeStopping_pumpSlot (l : LineId) (s : State) : (completeStopping l s).pumpSlot = s.pumpSlot := by
  simp only [completeStopping]
  (repeat' split) <;> simp

@[simp] theorem completeStopping_compartments (l : LineId) (s : State) : (completeStopping l s).compartments = s.compartments := by
  simp only [completeStopping]
  (repeat' split) <;> simp

@[simp] theorem completeStopping_orders (l : LineId) (s : State) : (completeStopping l s).orders = s.orders := by
  simp only [completeStopping]
  (repeat' split) <;> simp

@[simp] theorem completeStopping_journal (l : LineId) (s : State) : (completeStopping l s).journal = s.journal := by
  simp only [completeStopping]
  (repeat' split) <;> simp

@[simp] theorem completeStopping_journalDamage (l : LineId) (s : State) : (completeStopping l s).journalDamage = s.journalDamage := by
  simp only [completeStopping]
  (repeat' split) <;> simp

@[simp] theorem completeStopping_cal (l : LineId) (s : State) : (completeStopping l s).cal = s.cal := by
  simp only [completeStopping]
  (repeat' split) <;> simp

@[simp] theorem completeStopping_lock (l : LineId) (s : State) : (completeStopping l s).lock = s.lock := by
  simp only [completeStopping]
  (repeat' split) <;> simp

@[simp] theorem completeStopping_forward (l : LineId) (s : State) : (completeStopping l s).forward = s.forward := by
  simp only [completeStopping]
  (repeat' split) <;> simp

@[simp] theorem completeStopping_port (l : LineId) (s : State) : (completeStopping l s).port = s.port := by
  simp only [completeStopping]
  (repeat' split) <;> simp

@[simp] theorem completeStopping_store (l : LineId) (s : State) : (completeStopping l s).store = s.store := by
  simp only [completeStopping]
  (repeat' split) <;> simp

@[simp] theorem thresholdTest_pending (l : LineId) (d : Delivery) (s : State) : (thresholdTest l d s).pending = s.pending := by
  simp only [thresholdTest]
  (repeat' split) <;> simp

@[simp] theorem thresholdTest_now (l : LineId) (d : Delivery) (s : State) : (thresholdTest l d s).now = s.now := by
  simp only [thresholdTest]
  (repeat' split) <;> simp

@[simp] theorem thresholdTest_awake (l : LineId) (d : Delivery) (s : State) : (thresholdTest l d s).awake = s.awake := by
  simp only [thresholdTest]
  (repeat' split) <;> simp

@[simp] theorem thresholdTest_clock (l : LineId) (d : Delivery) (s : State) : (thresholdTest l d s).clock = s.clock := by
  simp only [thresholdTest]
  (repeat' split) <;> simp

@[simp] theorem thresholdTest_power (l : LineId) (d : Delivery) (s : State) : (thresholdTest l d s).power = s.power := by
  simp only [thresholdTest]
  (repeat' split) <;> simp

@[simp] theorem thresholdTest_levels (l : LineId) (d : Delivery) (s : State) : (thresholdTest l d s).levels = s.levels := by
  simp only [thresholdTest]
  (repeat' split) <;> simp

@[simp] theorem thresholdTest_pulse (l : LineId) (d : Delivery) (s : State) : (thresholdTest l d s).pulse = s.pulse := by
  simp only [thresholdTest]
  (repeat' split) <;> simp

@[simp] theorem thresholdTest_pumpSlot (l : LineId) (d : Delivery) (s : State) : (thresholdTest l d s).pumpSlot = s.pumpSlot := by
  simp only [thresholdTest]
  (repeat' split) <;> simp

@[simp] theorem thresholdTest_compartments (l : LineId) (d : Delivery) (s : State) : (thresholdTest l d s).compartments = s.compartments := by
  simp only [thresholdTest]
  (repeat' split) <;> simp

@[simp] theorem thresholdTest_orders (l : LineId) (d : Delivery) (s : State) : (thresholdTest l d s).orders = s.orders := by
  simp only [thresholdTest]
  (repeat' split) <;> simp

@[simp] theorem thresholdTest_journal (l : LineId) (d : Delivery) (s : State) : (thresholdTest l d s).journal = s.journal := by
  simp only [thresholdTest]
  (repeat' split) <;> simp

@[simp] theorem thresholdTest_journalDamage (l : LineId) (d : Delivery) (s : State) : (thresholdTest l d s).journalDamage = s.journalDamage := by
  simp only [thresholdTest]
  (repeat' split) <;> simp

@[simp] theorem thresholdTest_cal (l : LineId) (d : Delivery) (s : State) : (thresholdTest l d s).cal = s.cal := by
  simp only [thresholdTest]
  (repeat' split) <;> simp

@[simp] theorem thresholdTest_lock (l : LineId) (d : Delivery) (s : State) : (thresholdTest l d s).lock = s.lock := by
  simp only [thresholdTest]
  (repeat' split) <;> simp

@[simp] theorem thresholdTest_forward (l : LineId) (d : Delivery) (s : State) : (thresholdTest l d s).forward = s.forward := by
  simp only [thresholdTest]
  (repeat' split) <;> simp

@[simp] theorem thresholdTest_port (l : LineId) (d : Delivery) (s : State) : (thresholdTest l d s).port = s.port := by
  simp only [thresholdTest]
  (repeat' split) <;> simp

@[simp] theorem thresholdTest_settings (l : LineId) (d : Delivery) (s : State) : (thresholdTest l d s).settings = s.settings := by
  simp only [thresholdTest]
  (repeat' split) <;> simp

@[simp] theorem thresholdTest_storedSettings (l : LineId) (d : Delivery) (s : State) : (thresholdTest l d s).storedSettings = s.storedSettings := by
  simp only [thresholdTest]
  (repeat' split) <;> simp

@[simp] theorem thresholdTest_store (l : LineId) (d : Delivery) (s : State) : (thresholdTest l d s).store = s.store := by
  simp only [thresholdTest]
  (repeat' split) <;> simp

@[simp] theorem noFlowTest_pending (l : LineId) (s : State) : (noFlowTest l s).pending = s.pending := by
  simp only [noFlowTest]
  (repeat' split) <;> simp

@[simp] theorem noFlowTest_now (l : LineId) (s : State) : (noFlowTest l s).now = s.now := by
  simp only [noFlowTest]
  (repeat' split) <;> simp

@[simp] theorem noFlowTest_awake (l : LineId) (s : State) : (noFlowTest l s).awake = s.awake := by
  simp only [noFlowTest]
  (repeat' split) <;> simp

@[simp] theorem noFlowTest_clock (l : LineId) (s : State) : (noFlowTest l s).clock = s.clock := by
  simp only [noFlowTest]
  (repeat' split) <;> simp

@[simp] theorem noFlowTest_power (l : LineId) (s : State) : (noFlowTest l s).power = s.power := by
  simp only [noFlowTest]
  (repeat' split) <;> simp

@[simp] theorem noFlowTest_levels (l : LineId) (s : State) : (noFlowTest l s).levels = s.levels := by
  simp only [noFlowTest]
  (repeat' split) <;> simp

@[simp] theorem noFlowTest_pulse (l : LineId) (s : State) : (noFlowTest l s).pulse = s.pulse := by
  simp only [noFlowTest]
  (repeat' split) <;> simp

@[simp] theorem noFlowTest_pumpSlot (l : LineId) (s : State) : (noFlowTest l s).pumpSlot = s.pumpSlot := by
  simp only [noFlowTest]
  (repeat' split) <;> simp

@[simp] theorem noFlowTest_compartments (l : LineId) (s : State) : (noFlowTest l s).compartments = s.compartments := by
  simp only [noFlowTest]
  (repeat' split) <;> simp

@[simp] theorem noFlowTest_orders (l : LineId) (s : State) : (noFlowTest l s).orders = s.orders := by
  simp only [noFlowTest]
  (repeat' split) <;> simp

@[simp] theorem noFlowTest_journal (l : LineId) (s : State) : (noFlowTest l s).journal = s.journal := by
  simp only [noFlowTest]
  (repeat' split) <;> simp

@[simp] theorem noFlowTest_journalDamage (l : LineId) (s : State) : (noFlowTest l s).journalDamage = s.journalDamage := by
  simp only [noFlowTest]
  (repeat' split) <;> simp

@[simp] theorem noFlowTest_cal (l : LineId) (s : State) : (noFlowTest l s).cal = s.cal := by
  simp only [noFlowTest]
  (repeat' split) <;> simp

@[simp] theorem noFlowTest_lock (l : LineId) (s : State) : (noFlowTest l s).lock = s.lock := by
  simp only [noFlowTest]
  (repeat' split) <;> simp

@[simp] theorem noFlowTest_forward (l : LineId) (s : State) : (noFlowTest l s).forward = s.forward := by
  simp only [noFlowTest]
  (repeat' split) <;> simp

@[simp] theorem noFlowTest_port (l : LineId) (s : State) : (noFlowTest l s).port = s.port := by
  simp only [noFlowTest]
  (repeat' split) <;> simp

@[simp] theorem noFlowTest_settings (l : LineId) (s : State) : (noFlowTest l s).settings = s.settings := by
  simp only [noFlowTest]
  (repeat' split) <;> simp

@[simp] theorem noFlowTest_storedSettings (l : LineId) (s : State) : (noFlowTest l s).storedSettings = s.storedSettings := by
  simp only [noFlowTest]
  (repeat' split) <;> simp

@[simp] theorem noFlowTest_store (l : LineId) (s : State) : (noFlowTest l s).store = s.store := by
  simp only [noFlowTest]
  (repeat' split) <;> simp

@[simp] theorem flowingTest_pending (l : LineId) (d : Delivery) (s : State) : (flowingTest l d s).pending = s.pending := by
  simp only [flowingTest]
  split <;> simp

@[simp] theorem flowingTest_now (l : LineId) (d : Delivery) (s : State) : (flowingTest l d s).now = s.now := by
  simp only [flowingTest]
  split <;> simp

@[simp] theorem flowingTest_awake (l : LineId) (d : Delivery) (s : State) : (flowingTest l d s).awake = s.awake := by
  simp only [flowingTest]
  split <;> simp

@[simp] theorem flowingTest_clock (l : LineId) (d : Delivery) (s : State) : (flowingTest l d s).clock = s.clock := by
  simp only [flowingTest]
  split <;> simp

@[simp] theorem flowingTest_power (l : LineId) (d : Delivery) (s : State) : (flowingTest l d s).power = s.power := by
  simp only [flowingTest]
  split <;> simp

@[simp] theorem flowingTest_levels (l : LineId) (d : Delivery) (s : State) : (flowingTest l d s).levels = s.levels := by
  simp only [flowingTest]
  split <;> simp

@[simp] theorem flowingTest_pulse (l : LineId) (d : Delivery) (s : State) : (flowingTest l d s).pulse = s.pulse := by
  simp only [flowingTest]
  split <;> simp

@[simp] theorem flowingTest_pumpSlot (l : LineId) (d : Delivery) (s : State) : (flowingTest l d s).pumpSlot = s.pumpSlot := by
  simp only [flowingTest]
  split <;> simp

@[simp] theorem flowingTest_compartments (l : LineId) (d : Delivery) (s : State) : (flowingTest l d s).compartments = s.compartments := by
  simp only [flowingTest]
  split <;> simp

@[simp] theorem flowingTest_orders (l : LineId) (d : Delivery) (s : State) : (flowingTest l d s).orders = s.orders := by
  simp only [flowingTest]
  split <;> simp

@[simp] theorem flowingTest_journal (l : LineId) (d : Delivery) (s : State) : (flowingTest l d s).journal = s.journal := by
  simp only [flowingTest]
  split <;> simp

@[simp] theorem flowingTest_journalDamage (l : LineId) (d : Delivery) (s : State) : (flowingTest l d s).journalDamage = s.journalDamage := by
  simp only [flowingTest]
  split <;> simp

@[simp] theorem flowingTest_cal (l : LineId) (d : Delivery) (s : State) : (flowingTest l d s).cal = s.cal := by
  simp only [flowingTest]
  split <;> simp

@[simp] theorem flowingTest_lock (l : LineId) (d : Delivery) (s : State) : (flowingTest l d s).lock = s.lock := by
  simp only [flowingTest]
  split <;> simp

@[simp] theorem flowingTest_forward (l : LineId) (d : Delivery) (s : State) : (flowingTest l d s).forward = s.forward := by
  simp only [flowingTest]
  split <;> simp

@[simp] theorem flowingTest_port (l : LineId) (d : Delivery) (s : State) : (flowingTest l d s).port = s.port := by
  simp only [flowingTest]
  split <;> simp

@[simp] theorem flowingTest_settings (l : LineId) (d : Delivery) (s : State) : (flowingTest l d s).settings = s.settings := by
  simp only [flowingTest]
  split <;> simp

@[simp] theorem flowingTest_storedSettings (l : LineId) (d : Delivery) (s : State) : (flowingTest l d s).storedSettings = s.storedSettings := by
  simp only [flowingTest]
  split <;> simp

@[simp] theorem flowingTest_store (l : LineId) (d : Delivery) (s : State) : (flowingTest l d s).store = s.store := by
  simp only [flowingTest]
  split <;> simp

@[simp] theorem faultTest_pending (l : LineId) (cs : List StopCause) (s : State) : (faultTest l cs s).pending = s.pending := by
  simp only [faultTest]
  (repeat' split) <;> simp

@[simp] theorem faultTest_now (l : LineId) (cs : List StopCause) (s : State) : (faultTest l cs s).now = s.now := by
  simp only [faultTest]
  (repeat' split) <;> simp

@[simp] theorem faultTest_awake (l : LineId) (cs : List StopCause) (s : State) : (faultTest l cs s).awake = s.awake := by
  simp only [faultTest]
  (repeat' split) <;> simp

@[simp] theorem faultTest_clock (l : LineId) (cs : List StopCause) (s : State) : (faultTest l cs s).clock = s.clock := by
  simp only [faultTest]
  (repeat' split) <;> simp

@[simp] theorem faultTest_power (l : LineId) (cs : List StopCause) (s : State) : (faultTest l cs s).power = s.power := by
  simp only [faultTest]
  (repeat' split) <;> simp

@[simp] theorem faultTest_levels (l : LineId) (cs : List StopCause) (s : State) : (faultTest l cs s).levels = s.levels := by
  simp only [faultTest]
  (repeat' split) <;> simp

@[simp] theorem faultTest_pulse (l : LineId) (cs : List StopCause) (s : State) : (faultTest l cs s).pulse = s.pulse := by
  simp only [faultTest]
  (repeat' split) <;> simp

@[simp] theorem faultTest_pumpSlot (l : LineId) (cs : List StopCause) (s : State) : (faultTest l cs s).pumpSlot = s.pumpSlot := by
  simp only [faultTest]
  (repeat' split) <;> simp

@[simp] theorem faultTest_compartments (l : LineId) (cs : List StopCause) (s : State) : (faultTest l cs s).compartments = s.compartments := by
  simp only [faultTest]
  (repeat' split) <;> simp

@[simp] theorem faultTest_orders (l : LineId) (cs : List StopCause) (s : State) : (faultTest l cs s).orders = s.orders := by
  simp only [faultTest]
  (repeat' split) <;> simp

@[simp] theorem faultTest_journal (l : LineId) (cs : List StopCause) (s : State) : (faultTest l cs s).journal = s.journal := by
  simp only [faultTest]
  (repeat' split) <;> simp

@[simp] theorem faultTest_journalDamage (l : LineId) (cs : List StopCause) (s : State) : (faultTest l cs s).journalDamage = s.journalDamage := by
  simp only [faultTest]
  (repeat' split) <;> simp

@[simp] theorem faultTest_cal (l : LineId) (cs : List StopCause) (s : State) : (faultTest l cs s).cal = s.cal := by
  simp only [faultTest]
  (repeat' split) <;> simp

@[simp] theorem faultTest_lock (l : LineId) (cs : List StopCause) (s : State) : (faultTest l cs s).lock = s.lock := by
  simp only [faultTest]
  (repeat' split) <;> simp

@[simp] theorem faultTest_forward (l : LineId) (cs : List StopCause) (s : State) : (faultTest l cs s).forward = s.forward := by
  simp only [faultTest]
  (repeat' split) <;> simp

@[simp] theorem faultTest_port (l : LineId) (cs : List StopCause) (s : State) : (faultTest l cs s).port = s.port := by
  simp only [faultTest]
  (repeat' split) <;> simp

@[simp] theorem faultTest_settings (l : LineId) (cs : List StopCause) (s : State) : (faultTest l cs s).settings = s.settings := by
  simp only [faultTest]
  (repeat' split) <;> simp

@[simp] theorem faultTest_storedSettings (l : LineId) (cs : List StopCause) (s : State) : (faultTest l cs s).storedSettings = s.storedSettings := by
  simp only [faultTest]
  (repeat' split) <;> simp

@[simp] theorem faultTest_store (l : LineId) (cs : List StopCause) (s : State) : (faultTest l cs s).store = s.store := by
  simp only [faultTest]
  (repeat' split) <;> simp

@[simp] theorem evaluate_pending (l : LineId) (s : State) : (evaluate l s).pending = s.pending := by
  simp only [evaluate]
  (repeat' split) <;> simp

@[simp] theorem evaluate_now (l : LineId) (s : State) : (evaluate l s).now = s.now := by
  simp only [evaluate]
  (repeat' split) <;> simp

@[simp] theorem evaluate_awake (l : LineId) (s : State) : (evaluate l s).awake = s.awake := by
  simp only [evaluate]
  (repeat' split) <;> simp

@[simp] theorem evaluate_clock (l : LineId) (s : State) : (evaluate l s).clock = s.clock := by
  simp only [evaluate]
  (repeat' split) <;> simp

@[simp] theorem evaluate_power (l : LineId) (s : State) : (evaluate l s).power = s.power := by
  simp only [evaluate]
  (repeat' split) <;> simp

@[simp] theorem evaluate_levels (l : LineId) (s : State) : (evaluate l s).levels = s.levels := by
  simp only [evaluate]
  (repeat' split) <;> simp

@[simp] theorem evaluate_pulse (l : LineId) (s : State) : (evaluate l s).pulse = s.pulse := by
  simp only [evaluate]
  (repeat' split) <;> simp

@[simp] theorem evaluate_pumpSlot (l : LineId) (s : State) : (evaluate l s).pumpSlot = s.pumpSlot := by
  simp only [evaluate]
  (repeat' split) <;> simp

@[simp] theorem evaluate_compartments (l : LineId) (s : State) : (evaluate l s).compartments = s.compartments := by
  simp only [evaluate]
  (repeat' split) <;> simp

@[simp] theorem evaluate_orders (l : LineId) (s : State) : (evaluate l s).orders = s.orders := by
  simp only [evaluate]
  (repeat' split) <;> simp

@[simp] theorem evaluate_journal (l : LineId) (s : State) : (evaluate l s).journal = s.journal := by
  simp only [evaluate]
  (repeat' split) <;> simp

@[simp] theorem evaluate_journalDamage (l : LineId) (s : State) : (evaluate l s).journalDamage = s.journalDamage := by
  simp only [evaluate]
  (repeat' split) <;> simp

@[simp] theorem evaluate_cal (l : LineId) (s : State) : (evaluate l s).cal = s.cal := by
  simp only [evaluate]
  (repeat' split) <;> simp

@[simp] theorem evaluate_lock (l : LineId) (s : State) : (evaluate l s).lock = s.lock := by
  simp only [evaluate]
  (repeat' split) <;> simp

@[simp] theorem evaluate_forward (l : LineId) (s : State) : (evaluate l s).forward = s.forward := by
  simp only [evaluate]
  (repeat' split) <;> simp

@[simp] theorem evaluate_port (l : LineId) (s : State) : (evaluate l s).port = s.port := by
  simp only [evaluate]
  (repeat' split) <;> simp

@[simp] theorem evaluate_store (l : LineId) (s : State) : (evaluate l s).store = s.store := by
  simp only [evaluate]
  (repeat' split) <;> simp

@[simp] theorem countErrors_pending (l : LineId) (n : Nat) (s : State) : (countErrors l n s).pending = s.pending := by
  simp only [countErrors]
  split <;> simp

@[simp] theorem countErrors_now (l : LineId) (n : Nat) (s : State) : (countErrors l n s).now = s.now := by
  simp only [countErrors]
  split <;> simp

@[simp] theorem countErrors_awake (l : LineId) (n : Nat) (s : State) : (countErrors l n s).awake = s.awake := by
  simp only [countErrors]
  split <;> simp

@[simp] theorem countErrors_clock (l : LineId) (n : Nat) (s : State) : (countErrors l n s).clock = s.clock := by
  simp only [countErrors]
  split <;> simp

@[simp] theorem countErrors_power (l : LineId) (n : Nat) (s : State) : (countErrors l n s).power = s.power := by
  simp only [countErrors]
  split <;> simp

@[simp] theorem countErrors_levels (l : LineId) (n : Nat) (s : State) : (countErrors l n s).levels = s.levels := by
  simp only [countErrors]
  split <;> simp

@[simp] theorem countErrors_pulse (l : LineId) (n : Nat) (s : State) : (countErrors l n s).pulse = s.pulse := by
  simp only [countErrors]
  split <;> simp

@[simp] theorem countErrors_pumpSlot (l : LineId) (n : Nat) (s : State) : (countErrors l n s).pumpSlot = s.pumpSlot := by
  simp only [countErrors]
  split <;> simp

@[simp] theorem countErrors_compartments (l : LineId) (n : Nat) (s : State) : (countErrors l n s).compartments = s.compartments := by
  simp only [countErrors]
  split <;> simp

@[simp] theorem countErrors_orders (l : LineId) (n : Nat) (s : State) : (countErrors l n s).orders = s.orders := by
  simp only [countErrors]
  split <;> simp

@[simp] theorem countErrors_journal (l : LineId) (n : Nat) (s : State) : (countErrors l n s).journal = s.journal := by
  simp only [countErrors]
  split <;> simp

@[simp] theorem countErrors_journalDamage (l : LineId) (n : Nat) (s : State) : (countErrors l n s).journalDamage = s.journalDamage := by
  simp only [countErrors]
  split <;> simp

@[simp] theorem countErrors_cal (l : LineId) (n : Nat) (s : State) : (countErrors l n s).cal = s.cal := by
  simp only [countErrors]
  split <;> simp

@[simp] theorem countErrors_lock (l : LineId) (n : Nat) (s : State) : (countErrors l n s).lock = s.lock := by
  simp only [countErrors]
  split <;> simp

@[simp] theorem countErrors_forward (l : LineId) (n : Nat) (s : State) : (countErrors l n s).forward = s.forward := by
  simp only [countErrors]
  split <;> simp

@[simp] theorem countErrors_port (l : LineId) (n : Nat) (s : State) : (countErrors l n s).port = s.port := by
  simp only [countErrors]
  split <;> simp

@[simp] theorem countErrors_settings (l : LineId) (n : Nat) (s : State) : (countErrors l n s).settings = s.settings := by
  simp only [countErrors]
  split <;> simp

@[simp] theorem countErrors_storedSettings (l : LineId) (n : Nat) (s : State) : (countErrors l n s).storedSettings = s.storedSettings := by
  simp only [countErrors]
  split <;> simp

@[simp] theorem countErrors_store (l : LineId) (n : Nat) (s : State) : (countErrors l n s).store = s.store := by
  simp only [countErrors]
  split <;> simp

@[simp] theorem route_pending (l : LineId) (n : Int) (r : Nat) (c : Converted) (s : State) : (route l n r c s).pending = s.pending := by
  simp only [route, routeToDelivery]
  (repeat' split) <;> simp

@[simp] theorem route_now (l : LineId) (n : Int) (r : Nat) (c : Converted) (s : State) : (route l n r c s).now = s.now := by
  simp only [route, routeToDelivery]
  (repeat' split) <;> simp

@[simp] theorem route_awake (l : LineId) (n : Int) (r : Nat) (c : Converted) (s : State) : (route l n r c s).awake = s.awake := by
  simp only [route, routeToDelivery]
  (repeat' split) <;> simp

@[simp] theorem route_clock (l : LineId) (n : Int) (r : Nat) (c : Converted) (s : State) : (route l n r c s).clock = s.clock := by
  simp only [route, routeToDelivery]
  (repeat' split) <;> simp

@[simp] theorem route_power (l : LineId) (n : Int) (r : Nat) (c : Converted) (s : State) : (route l n r c s).power = s.power := by
  simp only [route, routeToDelivery]
  (repeat' split) <;> simp

@[simp] theorem route_levels (l : LineId) (n : Int) (r : Nat) (c : Converted) (s : State) : (route l n r c s).levels = s.levels := by
  simp only [route, routeToDelivery]
  (repeat' split) <;> simp

@[simp] theorem route_pulse (l : LineId) (n : Int) (r : Nat) (c : Converted) (s : State) : (route l n r c s).pulse = s.pulse := by
  simp only [route, routeToDelivery]
  (repeat' split) <;> simp

@[simp] theorem route_pumpSlot (l : LineId) (n : Int) (r : Nat) (c : Converted) (s : State) : (route l n r c s).pumpSlot = s.pumpSlot := by
  simp only [route, routeToDelivery]
  (repeat' split) <;> simp

@[simp] theorem route_orders (l : LineId) (n : Int) (r : Nat) (c : Converted) (s : State) : (route l n r c s).orders = s.orders := by
  simp only [route, routeToDelivery]
  (repeat' split) <;> simp

@[simp] theorem route_journal (l : LineId) (n : Int) (r : Nat) (c : Converted) (s : State) : (route l n r c s).journal = s.journal := by
  simp only [route, routeToDelivery]
  (repeat' split) <;> simp

@[simp] theorem route_journalDamage (l : LineId) (n : Int) (r : Nat) (c : Converted) (s : State) : (route l n r c s).journalDamage = s.journalDamage := by
  simp only [route, routeToDelivery]
  (repeat' split) <;> simp

@[simp] theorem route_cal (l : LineId) (n : Int) (r : Nat) (c : Converted) (s : State) : (route l n r c s).cal = s.cal := by
  simp only [route, routeToDelivery]
  (repeat' split) <;> simp

@[simp] theorem route_lock (l : LineId) (n : Int) (r : Nat) (c : Converted) (s : State) : (route l n r c s).lock = s.lock := by
  simp only [route, routeToDelivery]
  (repeat' split) <;> simp

@[simp] theorem route_forward (l : LineId) (n : Int) (r : Nat) (c : Converted) (s : State) : (route l n r c s).forward = s.forward := by
  simp only [route, routeToDelivery]
  (repeat' split) <;> simp

@[simp] theorem route_port (l : LineId) (n : Int) (r : Nat) (c : Converted) (s : State) : (route l n r c s).port = s.port := by
  simp only [route, routeToDelivery]
  (repeat' split) <;> simp

@[simp] theorem route_settings (l : LineId) (n : Int) (r : Nat) (c : Converted) (s : State) : (route l n r c s).settings = s.settings := by
  simp only [route, routeToDelivery]
  (repeat' split) <;> simp

@[simp] theorem route_storedSettings (l : LineId) (n : Int) (r : Nat) (c : Converted) (s : State) : (route l n r c s).storedSettings = s.storedSettings := by
  simp only [route, routeToDelivery]
  (repeat' split) <;> simp

@[simp] theorem route_store (l : LineId) (n : Int) (r : Nat) (c : Converted) (s : State) : (route l n r c s).store = s.store := by
  simp only [route, routeToDelivery]
  (repeat' split) <;> simp

@[simp] theorem tick_pending (l : LineId) (s : State) : (tick l s).pending = s.pending := by
  simp only [tick]
  simp

@[simp] theorem tick_now (l : LineId) (s : State) : (tick l s).now = s.now := by
  simp only [tick]
  simp

@[simp] theorem tick_awake (l : LineId) (s : State) : (tick l s).awake = s.awake := by
  simp only [tick]
  simp

@[simp] theorem tick_clock (l : LineId) (s : State) : (tick l s).clock = s.clock := by
  simp only [tick]
  simp

@[simp] theorem tick_power (l : LineId) (s : State) : (tick l s).power = s.power := by
  simp only [tick]
  simp

@[simp] theorem tick_levels (l : LineId) (s : State) : (tick l s).levels = s.levels := by
  simp only [tick]
  simp

@[simp] theorem tick_pumpSlot (l : LineId) (s : State) : (tick l s).pumpSlot = s.pumpSlot := by
  simp only [tick]
  simp

@[simp] theorem tick_orders (l : LineId) (s : State) : (tick l s).orders = s.orders := by
  simp only [tick]
  simp

@[simp] theorem tick_journal (l : LineId) (s : State) : (tick l s).journal = s.journal := by
  simp only [tick]
  simp

@[simp] theorem tick_journalDamage (l : LineId) (s : State) : (tick l s).journalDamage = s.journalDamage := by
  simp only [tick]
  simp

@[simp] theorem tick_cal (l : LineId) (s : State) : (tick l s).cal = s.cal := by
  simp only [tick]
  simp

@[simp] theorem tick_lock (l : LineId) (s : State) : (tick l s).lock = s.lock := by
  simp only [tick]
  simp

@[simp] theorem tick_forward (l : LineId) (s : State) : (tick l s).forward = s.forward := by
  simp only [tick]
  simp

@[simp] theorem tick_port (l : LineId) (s : State) : (tick l s).port = s.port := by
  simp only [tick]
  simp

@[simp] theorem tick_store (l : LineId) (s : State) : (tick l s).store = s.store := by
  simp only [tick]
  simp

@[simp] theorem takeValveStatus_pending (l : LineId) (p : Position) (s : State) : (takeValveStatus l p s).pending = s.pending := by
  simp only [takeValveStatus, confirmStage, escalate, failOpen, reportCloseFailure, reportOpenFailure]
  (repeat' split) <;> simp

@[simp] theorem takeValveStatus_now (l : LineId) (p : Position) (s : State) : (takeValveStatus l p s).now = s.now := by
  simp only [takeValveStatus, confirmStage, escalate, failOpen, reportCloseFailure, reportOpenFailure]
  (repeat' split) <;> simp

@[simp] theorem takeValveStatus_awake (l : LineId) (p : Position) (s : State) : (takeValveStatus l p s).awake = s.awake := by
  simp only [takeValveStatus, confirmStage, escalate, failOpen, reportCloseFailure, reportOpenFailure]
  (repeat' split) <;> simp

@[simp] theorem takeValveStatus_clock (l : LineId) (p : Position) (s : State) : (takeValveStatus l p s).clock = s.clock := by
  simp only [takeValveStatus, confirmStage, escalate, failOpen, reportCloseFailure, reportOpenFailure]
  (repeat' split) <;> simp

@[simp] theorem takeValveStatus_power (l : LineId) (p : Position) (s : State) : (takeValveStatus l p s).power = s.power := by
  simp only [takeValveStatus, confirmStage, escalate, failOpen, reportCloseFailure, reportOpenFailure]
  (repeat' split) <;> simp

@[simp] theorem takeValveStatus_levels (l : LineId) (p : Position) (s : State) : (takeValveStatus l p s).levels = s.levels := by
  simp only [takeValveStatus, confirmStage, escalate, failOpen, reportCloseFailure, reportOpenFailure]
  (repeat' split) <;> simp

@[simp] theorem takeValveStatus_pulse (l : LineId) (p : Position) (s : State) : (takeValveStatus l p s).pulse = s.pulse := by
  simp only [takeValveStatus, confirmStage, escalate, failOpen, reportCloseFailure, reportOpenFailure]
  (repeat' split) <;> simp

@[simp] theorem takeValveStatus_compartments (l : LineId) (p : Position) (s : State) : (takeValveStatus l p s).compartments = s.compartments := by
  simp only [takeValveStatus, confirmStage, escalate, failOpen, reportCloseFailure, reportOpenFailure]
  (repeat' split) <;> simp

@[simp] theorem takeValveStatus_orders (l : LineId) (p : Position) (s : State) : (takeValveStatus l p s).orders = s.orders := by
  simp only [takeValveStatus, confirmStage, escalate, failOpen, reportCloseFailure, reportOpenFailure]
  (repeat' split) <;> simp

@[simp] theorem takeValveStatus_journal (l : LineId) (p : Position) (s : State) : (takeValveStatus l p s).journal = s.journal := by
  simp only [takeValveStatus, confirmStage, escalate, failOpen, reportCloseFailure, reportOpenFailure]
  (repeat' split) <;> simp

@[simp] theorem takeValveStatus_journalDamage (l : LineId) (p : Position) (s : State) : (takeValveStatus l p s).journalDamage = s.journalDamage := by
  simp only [takeValveStatus, confirmStage, escalate, failOpen, reportCloseFailure, reportOpenFailure]
  (repeat' split) <;> simp

@[simp] theorem takeValveStatus_cal (l : LineId) (p : Position) (s : State) : (takeValveStatus l p s).cal = s.cal := by
  simp only [takeValveStatus, confirmStage, escalate, failOpen, reportCloseFailure, reportOpenFailure]
  (repeat' split) <;> simp

@[simp] theorem takeValveStatus_lock (l : LineId) (p : Position) (s : State) : (takeValveStatus l p s).lock = s.lock := by
  simp only [takeValveStatus, confirmStage, escalate, failOpen, reportCloseFailure, reportOpenFailure]
  (repeat' split) <;> simp

@[simp] theorem takeValveStatus_forward (l : LineId) (p : Position) (s : State) : (takeValveStatus l p s).forward = s.forward := by
  simp only [takeValveStatus, confirmStage, escalate, failOpen, reportCloseFailure, reportOpenFailure]
  (repeat' split) <;> simp

@[simp] theorem takeValveStatus_port (l : LineId) (p : Position) (s : State) : (takeValveStatus l p s).port = s.port := by
  simp only [takeValveStatus, confirmStage, escalate, failOpen, reportCloseFailure, reportOpenFailure]
  (repeat' split) <;> simp

@[simp] theorem takeValveStatus_store (l : LineId) (p : Position) (s : State) : (takeValveStatus l p s).store = s.store := by
  simp only [takeValveStatus, confirmStage, escalate, failOpen, reportCloseFailure, reportOpenFailure]
  (repeat' split) <;> simp

@[simp] theorem hearAir_pending (l : LineId) (s : State) : (hearAir l s).pending = s.pending := by
  rfl

@[simp] theorem hearAir_now (l : LineId) (s : State) : (hearAir l s).now = s.now := by
  rfl

@[simp] theorem hearAir_awake (l : LineId) (s : State) : (hearAir l s).awake = s.awake := by
  rfl

@[simp] theorem hearAir_clock (l : LineId) (s : State) : (hearAir l s).clock = s.clock := by
  rfl

@[simp] theorem hearAir_power (l : LineId) (s : State) : (hearAir l s).power = s.power := by
  rfl

@[simp] theorem hearAir_levels (l : LineId) (s : State) : (hearAir l s).levels = s.levels := by
  rfl

@[simp] theorem hearAir_pulse (l : LineId) (s : State) : (hearAir l s).pulse = s.pulse := by
  rfl

@[simp] theorem hearAir_pumpSlot (l : LineId) (s : State) : (hearAir l s).pumpSlot = s.pumpSlot := by
  rfl

@[simp] theorem hearAir_compartments (l : LineId) (s : State) : (hearAir l s).compartments = s.compartments := by
  rfl

@[simp] theorem hearAir_orders (l : LineId) (s : State) : (hearAir l s).orders = s.orders := by
  rfl

@[simp] theorem hearAir_journal (l : LineId) (s : State) : (hearAir l s).journal = s.journal := by
  rfl

@[simp] theorem hearAir_journalDamage (l : LineId) (s : State) : (hearAir l s).journalDamage = s.journalDamage := by
  rfl

@[simp] theorem hearAir_cal (l : LineId) (s : State) : (hearAir l s).cal = s.cal := by
  rfl

@[simp] theorem hearAir_lock (l : LineId) (s : State) : (hearAir l s).lock = s.lock := by
  rfl

@[simp] theorem hearAir_forward (l : LineId) (s : State) : (hearAir l s).forward = s.forward := by
  rfl

@[simp] theorem hearAir_port (l : LineId) (s : State) : (hearAir l s).port = s.port := by
  rfl

@[simp] theorem hearAir_settings (l : LineId) (s : State) : (hearAir l s).settings = s.settings := by
  rfl

@[simp] theorem hearAir_storedSettings (l : LineId) (s : State) : (hearAir l s).storedSettings = s.storedSettings := by
  rfl

@[simp] theorem hearAir_store (l : LineId) (s : State) : (hearAir l s).store = s.store := by
  rfl

@[simp] theorem takeAirPresent_pending (l : LineId) (s : State) : (takeAirPresent l s).pending = s.pending := by
  simp only [takeAirPresent]
  (repeat' split) <;> simp

@[simp] theorem takeAirPresent_now (l : LineId) (s : State) : (takeAirPresent l s).now = s.now := by
  simp only [takeAirPresent]
  (repeat' split) <;> simp

@[simp] theorem takeAirPresent_awake (l : LineId) (s : State) : (takeAirPresent l s).awake = s.awake := by
  simp only [takeAirPresent]
  (repeat' split) <;> simp

@[simp] theorem takeAirPresent_clock (l : LineId) (s : State) : (takeAirPresent l s).clock = s.clock := by
  simp only [takeAirPresent]
  (repeat' split) <;> simp

@[simp] theorem takeAirPresent_power (l : LineId) (s : State) : (takeAirPresent l s).power = s.power := by
  simp only [takeAirPresent]
  (repeat' split) <;> simp

@[simp] theorem takeAirPresent_levels (l : LineId) (s : State) : (takeAirPresent l s).levels = s.levels := by
  simp only [takeAirPresent]
  (repeat' split) <;> simp

@[simp] theorem takeAirPresent_pulse (l : LineId) (s : State) : (takeAirPresent l s).pulse = s.pulse := by
  simp only [takeAirPresent]
  (repeat' split) <;> simp

@[simp] theorem takeAirPresent_pumpSlot (l : LineId) (s : State) : (takeAirPresent l s).pumpSlot = s.pumpSlot := by
  simp only [takeAirPresent]
  (repeat' split) <;> simp

@[simp] theorem takeAirPresent_compartments (l : LineId) (s : State) : (takeAirPresent l s).compartments = s.compartments := by
  simp only [takeAirPresent]
  (repeat' split) <;> simp

@[simp] theorem takeAirPresent_orders (l : LineId) (s : State) : (takeAirPresent l s).orders = s.orders := by
  simp only [takeAirPresent]
  (repeat' split) <;> simp

@[simp] theorem takeAirPresent_journal (l : LineId) (s : State) : (takeAirPresent l s).journal = s.journal := by
  simp only [takeAirPresent]
  (repeat' split) <;> simp

@[simp] theorem takeAirPresent_journalDamage (l : LineId) (s : State) : (takeAirPresent l s).journalDamage = s.journalDamage := by
  simp only [takeAirPresent]
  (repeat' split) <;> simp

@[simp] theorem takeAirPresent_cal (l : LineId) (s : State) : (takeAirPresent l s).cal = s.cal := by
  simp only [takeAirPresent]
  (repeat' split) <;> simp

@[simp] theorem takeAirPresent_lock (l : LineId) (s : State) : (takeAirPresent l s).lock = s.lock := by
  simp only [takeAirPresent]
  (repeat' split) <;> simp

@[simp] theorem takeAirPresent_forward (l : LineId) (s : State) : (takeAirPresent l s).forward = s.forward := by
  simp only [takeAirPresent]
  (repeat' split) <;> simp

@[simp] theorem takeAirPresent_port (l : LineId) (s : State) : (takeAirPresent l s).port = s.port := by
  simp only [takeAirPresent]
  (repeat' split) <;> simp

@[simp] theorem takeAirPresent_settings (l : LineId) (s : State) : (takeAirPresent l s).settings = s.settings := by
  simp only [takeAirPresent]
  (repeat' split) <;> simp

@[simp] theorem takeAirPresent_storedSettings (l : LineId) (s : State) : (takeAirPresent l s).storedSettings = s.storedSettings := by
  simp only [takeAirPresent]
  (repeat' split) <;> simp

@[simp] theorem takeAirPresent_store (l : LineId) (s : State) : (takeAirPresent l s).store = s.store := by
  simp only [takeAirPresent]
  (repeat' split) <;> simp

@[simp] theorem closeBothValves_pending (r : PumpReason) (s : State) : (closeBothValves r s).pending = s.pending := by
  simp only [closeBothValves]
  simp

@[simp] theorem closeBothValves_now (r : PumpReason) (s : State) : (closeBothValves r s).now = s.now := by
  simp only [closeBothValves]
  simp

@[simp] theorem closeBothValves_awake (r : PumpReason) (s : State) : (closeBothValves r s).awake = s.awake := by
  simp only [closeBothValves]
  simp

@[simp] theorem closeBothValves_clock (r : PumpReason) (s : State) : (closeBothValves r s).clock = s.clock := by
  simp only [closeBothValves]
  simp

@[simp] theorem closeBothValves_power (r : PumpReason) (s : State) : (closeBothValves r s).power = s.power := by
  simp only [closeBothValves]
  simp

@[simp] theorem closeBothValves_levels (r : PumpReason) (s : State) : (closeBothValves r s).levels = s.levels := by
  simp only [closeBothValves]
  simp

@[simp] theorem closeBothValves_pulse (r : PumpReason) (s : State) : (closeBothValves r s).pulse = s.pulse := by
  simp only [closeBothValves]
  simp

@[simp] theorem closeBothValves_compartments (r : PumpReason) (s : State) : (closeBothValves r s).compartments = s.compartments := by
  simp only [closeBothValves]
  simp

@[simp] theorem closeBothValves_orders (r : PumpReason) (s : State) : (closeBothValves r s).orders = s.orders := by
  simp only [closeBothValves]
  simp

@[simp] theorem closeBothValves_journal (r : PumpReason) (s : State) : (closeBothValves r s).journal = s.journal := by
  simp only [closeBothValves]
  simp

@[simp] theorem closeBothValves_journalDamage (r : PumpReason) (s : State) : (closeBothValves r s).journalDamage = s.journalDamage := by
  simp only [closeBothValves]
  simp

@[simp] theorem closeBothValves_cal (r : PumpReason) (s : State) : (closeBothValves r s).cal = s.cal := by
  simp only [closeBothValves]
  simp

@[simp] theorem closeBothValves_lock (r : PumpReason) (s : State) : (closeBothValves r s).lock = s.lock := by
  simp only [closeBothValves]
  simp

@[simp] theorem closeBothValves_forward (r : PumpReason) (s : State) : (closeBothValves r s).forward = s.forward := by
  simp only [closeBothValves]
  simp

@[simp] theorem closeBothValves_port (r : PumpReason) (s : State) : (closeBothValves r s).port = s.port := by
  simp only [closeBothValves]
  simp

@[simp] theorem closeBothValves_settings (r : PumpReason) (s : State) : (closeBothValves r s).settings = s.settings := by
  simp only [closeBothValves]
  simp

@[simp] theorem closeBothValves_storedSettings (r : PumpReason) (s : State) : (closeBothValves r s).storedSettings = s.storedSettings := by
  simp only [closeBothValves]
  simp

@[simp] theorem closeBothValves_store (r : PumpReason) (s : State) : (closeBothValves r s).store = s.store := by
  simp only [closeBothValves]
  simp

end Sys2Proof.Machine
end

