-- ==== Sys2Proof/Tests/Slice0.lean ====
section
/-! SUPPORT. The model's own tests: what well-formedness refuses, worked examples of the spec, and for each statement
states and operands that meet its hypotheses. -/

namespace Sys2Proof.Tests

open Sys2Proof.Machine

/-! ### Helpers -/

/-- What holds of the next state. -/
def after (i : Instr) (s : State) (p : State → Bool) : Bool :=
  match exec i s with
  | .next t => p t
  | _ => false

/-- A defined product: alpha 840 ppm, beta 500 ppb, reference 1,500 cd, NET (spec/02, R30, first example). -/
def gasOil : Product := { defined := true, alpha := 840, beta := 500, tref := 1500, basis := .net }

/-- The band table of R22's example. -/
def bands22 : List Band :=
  [{ lower := 0, correction := 4000 }, { lower := 300, correction := 3200 }, { lower := 800, correction := 2500 },
   { lower := 2000, correction := 1800 }]

/-- The context of the delivery of section 5.13, with a billed volume. -/
def gasDelivery (billed : Volume) : Delivery :=
  { kind := .delivery, order := some 5107, customer := some 20114, price := some 689, preset := some 500000,
    product := 0, compartment := 2, ticket := none, gross := 498034, net := 502242, billed := billed, unbilled := 1830,
    reversePulses := 0, integrityErrors := 0, sumTG := 249017000, tempGross := 498034, startTime := some 41210,
    endTime := none, stopCause := none, stopTarget := none, faults := 0, flags := .clear, eventCount := 212,
    unattendedBefore := 37 }

/-- A part set up for delivery: Line 1 calibrated, product 1 defined, compartment 3 loaded, the order of section 5.13
waiting, the clock set, the hose full of product 1. -/
def base : State :=
  { State.reset with
    clock := { count := 41210, isSet := true }
    cal := { Calibration.factory with
      lines := { line1 := { LineCalibration.factory 0x18E40010 0x18E40020 0x18E40030 with k := 100, bands := bands22 },
                 line2 := LineCalibration.factory 0x18E40110 0x18E40120 0x18E40130 }
      products := Calibration.factory.products.set 0 gasOil
      eventCount := 212 }
    compartments := State.reset.compartments.set 2
      { product := some 0, remaining := 2400000, reserve := 50000, granted := none }
    orders := [{ number := 5107, product := 0, preset := 500000, price := 689, customer := 20114, bound := none }]
    line := { State.reset.line with line1 := { State.reset.line.line1 with
      kept := { LineCopy.factory with hose := .product 0, unattended := 37 }
      temp := some { value := 500, since := 0 } } }
    store := { State.reset.store with line1 := { LineCopy.factory with hose := .product 0, unattended := 37 } } }

/-- The base state with Line 1 in a state, holding a delivery, its valve commanded and its report timer running. -/
def holding (st : LineState) (stage : Stage) (d : Delivery) : State :=
  let copy := { LineCopy.factory with hose := .product 0, state := st, ctx := some d }
  { base with
    compartments := State.reset.compartments.set 2
      { product := some 0, remaining := 2400000, reserve := 50000, granted := some .line1 }
    orders := [{ number := 5107, product := 0, preset := 500000, price := 689, customer := 20114, bound := some .line1 }]
    journal := { base.journal with
      reservations := [{ holder := .line .line1, kind := .delivery, sequence := none }]
      newestSeq := 9020, newestWritten := 9020, newestTicket := 3317 }
    line := { base.line with line1 := { base.line.line1 with
      kept := copy
      resume := if st = .airHold then some .flowing else none
      airHold := if st = .airHold then some 120000000 else none
      report := some 1000000 } }
    valve := { base.valve with line1 := { base.valve.line1 with commanded := stage, slot := none } }
    store := { base.store with line1 := copy } }

/-- A field frame with an identifier. -/
def fieldFrame (ident : Nat) (data : List Byte) : Frame :=
  { extended := true, ident := ident, fd := false, brs := false, data := data }

/-- The port is ready, as a test that can be evaluated. -/
def ready (s : State) : Bool :=
  s.power.on && !s.forward.cabOff && !s.power.parked && s.power.wakeDelay.isNone && !s.power.holdup &&
    s.port.inFlight.isNone && s.port.pendingReset.isNone && decide (s.port.responses.length < 4)

/-- What the test of readiness says. -/
theorem portReady_of_ready {s : State} (h : ready s = true) : PortReady s := by
  simp only [ready, Bool.and_eq_true, Bool.not_eq_true', Option.isNone_iff_eq_none, decide_eq_true_eq] at h
  obtain ⟨⟨⟨⟨⟨⟨⟨h1, h2⟩, h3⟩, h4⟩, h5⟩, h6⟩, h7⟩, h8⟩ := h
  exact ⟨⟨h1, h2, h3, h4, h5⟩, h6, h7, h8⟩

/-! ### Well-formedness: each check refuses an ill-formed term -/

theorem test_wf_byte : (Instr.stop 0 256).wellFormed = false := by decide
theorem test_wf_tag : (Instr.lock 256).wellFormed = false := by decide
theorem test_wf_word : (Instr.readRecord 0 4294967296).wellFormed = false := by decide
theorem test_wf_signed : (Instr.loadOrder 0 1 1 2147483648 0 0).wellFormed = false := by decide
theorem test_wf_negative : (Instr.loadCompartment 0 1 1 (-2147483649) 0).wellFormed = false := by decide
theorem test_wf_ident11 :
    (Instr.cabFrameArrival { extended := false, ident := 2048, fd := false, brs := false, data := [] }).wellFormed
      = false := by decide
theorem test_wf_ident29 : (Instr.fieldFrameArrival (fieldFrame 536870912 [])).wellFormed = false := by decide
theorem test_wf_length :
    (Instr.fieldFrameArrival (fieldFrame 1 (List.replicate 65 0))).wellFormed = false := by decide
theorem test_wf_accepts : (Instr.arm 7 1 5107 3).wellFormed = true := by decide

/-! ### Command frames (R178, R192): bytes written out from the table of section 10.7 -/

/-- ARM is 0x10, then tag, line, order number in four bytes, compartment. -/
theorem test_frame_arm :
    commandOfData [0x10, 0x07, 0x01, 0xF3, 0x13, 0x00, 0x00, 0x03] = some (.arm 1 5107 3) := by decide
/-- LOAD ORDER is 0x20: order, product, preset (signed), price, customer. -/
theorem test_frame_loadOrder :
    commandOfData [0x20, 0, 1, 0, 0, 0, 2, 0xFE, 0xFF, 0xFF, 0xFF, 0xB1, 2, 0, 0, 9, 0, 0, 0]
      = some (.loadOrder 1 2 (-2) 689 9) := by decide
/-- A frame that lacks a parameter byte spells no command, and a longer one spells its command. -/
theorem test_frame_length :
    commandOfData [0x12, 0] = none ∧ commandOfData [0x12, 0, 2, 0xAA] = some (.disarm 2) := by decide
/-- SET TIME, WRITE SETTING and READ RECORD. -/
theorem test_frame_others :
    commandOfData [0x60, 0, 0x5A, 0xCC, 0, 0] = some (.setTime 52314) ∧
      commandOfData [0x61, 0, 5, 1, 0xFF, 0xFF, 0xFF, 0xFF, 1] = some (.writeSetting 5 1 (-1) 1) ∧
      commandOfData [0x30, 0, 0x3D, 0x23, 0, 0] = some (.readRecord 9021) := by decide
theorem test_frame_unknown : commandOfData [0xEE, 0, 0] = none ∧ knownCode 0xEE = false := by decide
/-- The table gives no row any bits. -/
theorem test_tableWord : decodeTableWord 16 0x1234 = none := by decide

/-! ### Worked examples of the spec -/

/-- R8, table: K = 100 and 4,000 us, K = 10 and 200 us, K = 2,000 and 1,500,000 us. -/
theorem test_flowOfPeriod :
    flowOfPeriod 100 4000 = 1500 ∧ flowOfPeriod 10 200 = 65535 ∧ flowOfPeriod 2000 1500000 = 0 := by decide
/-- R22, example: 1,500 dL/min selects entry 2, 2,000 entry 3. -/
theorem test_selectBand :
    (selectBand bands22 1500).correction = 2500 ∧ (selectBand bands22 2000).correction = 1800 := by decide
/-- R23, example: one reverse pulse at K = 100 and M = 1,004,000. -/
theorem test_convert_reverse :
    (convert 100 (-1) 1004000 1000000 0 0).gross = -11 ∧ (convert 100 (-1) 1004000 1000000 0 0).grossRem = 96000000 := by
  decide
/-- R30, table of roundings, rows 1, 2, 3 and 5. -/
theorem test_vcf :
    rawVcf gasOil 500 = 1008450 ∧ rawVcf { gasOil with alpha := 845 } 490 = 1008586 ∧
      rawVcf { gasOil with alpha := 700, beta := 5 } 2500 = 993001 ∧
      clampVcf (rawVcf { gasOil with alpha := 2000, beta := 5000, tref := 3000 } (-4000)) = 1100000 := by decide
/-- R37, examples. -/
theorem test_average :
    averageOf { gasDelivery 0 with sumTG := -1250, tempGross := 500 } = some (-3) ∧
      averageOf { gasDelivery 0 with sumTG := 1253, tempGross := 501 } = some 3 := by decide
/-- R38 and section 5.13: 500,412 mL at 689 mills per litre. -/
theorem test_amount : amountOf 500412 689 = 34478 ∧ amountOf (-5) 689 = 0 := by decide
/-- R88 and section 5.13: 412 mL over the preset widen 1,500 mL to 1,603 mL. -/
theorem test_closeAhead : adaptedCloseAhead (gasDelivery 500412) 1500 = 1603 := by decide

/-- Section 1.7, e3: the second forward pulse, 4,000 us after the first. -/
theorem test_edge_e3 :
    after (.edgeEvent .line1 (.rising .a) 14000)
      { base with pulse := { base.pulse with line1 :=
        { PulseInput.cleared 0 with forward := 1, refA := some 10000, refB := some 11000, last := some .b,
                                    timerStart := 10000, periodStart := true } } }
      (fun t => t.pulse.line1.forward = 2 && t.pulse.line1.flow = 1500 && t.pulse.line1.errors = 0) = true := by
  decide
/-- Section 1.7, e4: an A edge 120 us after the A reference. -/
theorem test_edge_e4 :
    after (.edgeEvent .line1 (.rising .a) 14120)
      { base with pulse := { base.pulse with line1 :=
        { PulseInput.cleared 0 with forward := 2, refA := some 14000, last := some .a, timerStart := 14000 } } }
      (fun t => t.pulse.line1.forward = 2 && t.pulse.line1.errors = 1 && t.pulse.line1.refA = some 14000) = true := by
  decide

/-- Section 1.7, e9: an A edge with B high, 3,500 us after the last A edge: a reverse pulse, flow rate 0. -/
theorem test_edge_e9 :
    after (.edgeEvent .line1 (.rising .a) 21500)
      { base with
        levels := { base.levels with line1 := { a := false, b := true } }
        pulse := { base.pulse with line1 :=
          { PulseInput.cleared 0 with forward := 3, errors := 2, refA := some 18000, refB := some 19000, last := some .b,
                                      timerStart := 18000, periodStart := true, flow := 1500 } } }
      (fun t => t.pulse.line1.reverse = 1 && t.pulse.line1.flow = 0 && t.pulse.line1.errors = 2 &&
        t.pulse.line1.periodStart = false) = true := by decide

/-- Section 5.13, ARM. -/
theorem test_arm :
    after (.arm 1 1 5107 3) base (fun t =>
      t.lineState .line1 = .armed && t.line.line1.kept.unattended = 0 &&
        (t.ctx .line1).map (·.unattendedBefore) = some 37 && t.compartments[2].granted = some .line1 &&
        t.journal.reservations.length = 1 && t.valve.line1.commanded = .close) = true := by decide
/-- Section 5.13, START: FLOWING at OPEN_SLOW, start time 41,210. -/
theorem test_start :
    after (.start 1 1) (holding .armed .close { gasDelivery 0 with startTime := none, gross := 0, net := 0 }) (fun t =>
      t.lineState .line1 = .flowing && t.valve.line1.commanded = .openSlow &&
        (t.ctx .line1).map (·.startTime) = some (some 41210)) = true := by decide
/-- Section 5.13, AIR_PRESENT: AIR_HOLD, the valve told to close, AIR_SEEN. -/
theorem test_air :
    after (.fieldFrameArrival (fieldFrame 0x18E40030 [1])) (holding .flowing .openFull (gasDelivery 212400)) (fun t =>
      t.lineState .line1 = .airHold && t.valve.line1.slot = some .close &&
        (t.ctx .line1).map (·.flags.airSeen) = some true && t.line.line1.airHold = some 120000000) = true := by decide
/-- Section 5.13, END: ticket 3,318, sequence 9,021, CLOSING. -/
theorem test_end :
    after (.endDelivery 1 1) (holding .finished .close (gasDelivery 500412)) (fun t =>
      t.lineState .line1 = .closing && t.journal.newestTicket = 3318 && t.journal.newestSeq = 9021 &&
        t.journal.queue.map (·.sequence) = [9021]) = true := by decide
/-- R192, END response: mask 3, ticket, sequence, billed, amount. -/
theorem test_end_response :
    after (.endDelivery 9 1) (holding .finished .close (gasDelivery 500412)) (fun t =>
      t.port.responses.map (·.frame.data) =
        [[0x17, 9, 0, 3, 0xF6, 0x0C, 0, 0, 0x3D, 0x23, 0, 0, 0xBC, 0xA2, 0x07, 0, 0xAE, 0x86, 0, 0]]) = true := by
  decide
/-- Section 9.7, events 1 to 3: a gated run frame, a protected frame, an 11-bit frame. -/
theorem test_forwarding :
    let s := { base with forward := { base.forward with
      effect := base.forward.effect.set 0
        { inUse := true, direction := .cabToField, matchValue := 0x18E40300, mask := 0x1FFFFFFF,
          action := .passWhenFlowing, gate := .either, persist := true } } }
    after (.cabFrameArrival (fieldFrame 0x18E40300 [])) s (fun t => t.forward.countToField.gatedDrop = 1) = true ∧
      after (.cabFrameArrival (fieldFrame 0x18E40200 [])) s (fun t => t.forward.countToField.protectedDrop = 1) = true ∧
      after (.cabFrameArrival { fieldFrame 0x123 [] with extended := false }) s
        (fun t => t.forward.countToField.tableDrop = 1) = true := by decide
/-- Section 9.7, event 6: a probe sample of 500 cd. -/
theorem test_probe :
    after (.fieldFrameArrival (fieldFrame 0x18E40020 [0, 0xF4, 1])) base
      (fun t => t.line.line1.temp.map (·.value) = some 500) = true := by decide

/-- A part at the start of section 8.9: LOCKED with both credentials, count 212, newest sequence 9,023. -/
def session : State :=
  { base with
    lock := { base.lock with inspector := some 7, fleet := some 8, state := .locked }
    journal := { base.journal with newestSeq := 9023, newestWritten := 9023 } }

/-- Section 8.9, steps 2 and 3: a mistyped and a correct value. -/
theorem test_unlock :
    after (.unlock 1 2 9) session (fun t => t.lock.attempts = 4 && t.lock.state = .locked) = true ∧
      after (.unlock 1 2 7) session (fun t =>
        t.lock.state = .unlocked .inspector && t.lock.relock = some 900000000) = true := by decide

/-- The session after its identity read, unlocked (section 8.9, step 5). -/
def unlockedSession : State :=
  { session with
    lock := { session.lock with state := .unlocked .inspector, attempts := 4, relock := some 900000000 }
    port := { session.port with previous := some { code := 0x40, status := .answered .ok } } }

/-- Section 8.9, steps 4 and 6: STALE after another frame, else in flight with sequence 9,024. -/
theorem test_writeItem :
    after (.writeCalibrationItem 1 212 1 0 0 101) { unlockedSession with port := session.port } (fun t =>
        t.port.responses.map (·.frame.data) = [[0x42, 1, 21, 212, 0, 0, 0]]) = true ∧
      after (.writeCalibrationItem 1 212 1 0 0 101) unlockedSession (fun t =>
        t.port.inFlight = some { code := 0x42, tag := 1 } && t.journal.newestSeq = 9024 &&
          t.cal.lines.line1.k = 100) = true := by decide

/-- The record of the K-factor write of step 6. -/
def kRecord : CalibrationRecord :=
  { newCount := 213, time := some 41210, item := .item (.kFactor .line1), oldValue := .int 100, newValue := .int 101,
    credential := some .inspector }

/-- The session with the K-factor write of step 6 queued. -/
def writing : State :=
  { unlockedSession with
    port := { unlockedSession.port with inFlight := some { code := 0x42, tag := 1 } }
    journal := { unlockedSession.journal with
      newestSeq := 9024
      reservations := [{ holder := .calibration, kind := .calibration, sequence := some 9024 }]
      queue := [{ holder := .calibration, sequence := 9024, contents := .calibration kRecord }] } }

/-- Section 8.9, step 8: the completion sets the K-factor and the count, and answers; R192: padded to 12 bytes. -/
theorem test_writeCompletion :
    after .writeCompletion writing (fun t =>
      t.cal.lines.line1.k = 101 && t.cal.eventCount = 213 && t.journal.newestWritten = 9024 &&
        t.port.responses.map (·.frame.data) = [[0x42, 1, 0, 213, 0, 0, 0, 0x40, 0x23, 0, 0, 0]]) = true := by decide
/-- Section 8.9, last paragraph: the supply fails between the two stores, and power-on rolls the change forward. -/
theorem test_rollForward :
    let s := loseSupply true writing
    exec (.supplyFailure true) writing = .next s ∧ s.cal.eventCount = 212 ∧
      after .powerOn s (fun t => t.cal.lines.line1.k = 101 && t.cal.eventCount = 213) = true := by
  refine ⟨rfl, by decide, ?_⟩
  simp only [after, exec, execPowerOn, runPowerOn]
  rw [restore_of_intact false rfl rfl rfl]
  decide

/-- Section 11.6, POWER_FAIL: STOPPING with POWER_LOSS, CLOSE and a pump stop. -/
theorem test_powerFail :
    after .powerFail (holding .flowing .openFull (gasDelivery 312640)) (fun t =>
      t.lineState .line1 = .stopping && (t.ctx .line1).map (·.stopCause) = some (some .powerLoss) &&
        t.valve.line1.slot = some .close && t.pumpSlot = some { reason := .powerLoss, line := none }) = true := by decide
/-- Section 11.6, power-on: INTERRUPTED with the flag, the context kept, the clock UNSET. -/
theorem test_powerOn :
    after .powerOn (holding .stopping .close (gasDelivery 313279)) (fun t =>
      t.lineState .line1 = .interrupted && (t.ctx .line1).map (·.billed) = some 313279 &&
        (t.ctx .line1).map (·.flags.interrupted) = some true && t.clock.isSet = false) = true := by decide
/-- Entry 1: the state after reset is what power-on makes of it. -/
theorem test_reset : after .powerOn State.reset (fun t => t = State.reset) = true := by decide

/-- R109 and R110: the third window ends in escalation, with a pump stop for the line. -/
theorem test_escalation :
    after (.confirmationTimerExpiry .line1 500000)
      { base with valve := { base.valve with line1 := { base.valve.line1 with sendCount := 3 } } } (fun t =>
        t.valve.line1.escalated = true && t.pumpSlot = some { reason := .valveFault, line := some .line1 }) = true := by
  decide
/-- R182: a value above the range is clamped, and persist 0 leaves the stored value. -/
theorem test_writeSetting :
    after (.writeSetting 1 5 1 9000 0) base (fun t =>
      t.settings.lines.line1.closeAhead = 5000 && t.storedSettings.lines.line1.closeAhead = 1500) = true := by decide
/-- R198: a count waiting for a tick refuses PARK with WAKE_PENDING. -/
theorem test_park :
    after (.park 1) { base with pulse := { base.pulse with line2 := { PulseInput.cleared 0 with forward := 1 } } }
      (fun t => t.port.responses.map (·.frame.data) = [[0x66, 1, 22]]) = true := by decide
/-- R172: both requests pending after a reset, the device status first, then Line 1. -/
theorem test_cabPort :
    after .cabPortTake base (fun t => t.forward.txCab.map (·.frame.ident) = some 0x0B3C0004) = true ∧
      after .cabPortTake { base with reports := { base.reports with device := false } }
        (fun t => t.forward.txCab.map (·.frame.ident) = some 0x0B3C0002) = true := by decide
/-- The idle step: one microsecond passes, or a due event is queued (entry 3). -/
theorem test_idle :
    (match step { base with
        reports := { lines := { line1 := false, line2 := false }, device := false, lastLine := none }
        valve := { line1 := { base.valve.line1 with slot := none }, line2 := { base.valve.line2 with slot := none } } } with
      | .next t => t.now = 1 && t.pending = []
      | _ => false) = true ∧
      (match step base with
        | .next t => t.pending = [.fieldPortTake]
        | _ => false) = true := by decide

/-! ### Witnesses: states and operands that meet the hypotheses of each statement, clause by clause

`ready s = true` gives `PortReady s` and with it `CabOpen s` (`portReady_of_ready`). -/

/-- Line 1 of a state, changed. -/
def line1 (s : State) (f : Line → Line) : State := s.modLine .line1 f

/-- The port of a state, changed. -/
def port (s : State) (f : CommandPort → CommandPort) : State := { s with port := f s.port }

/-- A response that waits in the slot. -/
def waiting : Response := { frame := fieldFrame 1 [], performs := none }

/-- A parked base state. -/
def parked : State := { base with power := { base.power with parked := true } }

/-- A flowing delivery below its thresholds, and one above the stop threshold. -/
def flowing : State := holding .flowing .openFull (gasDelivery 212400)

/-- O3: a state whose store agrees, and a command that gives a next state. -/
theorem hyp_EventStoresContextsAndReports :
    base.store = copies base ∧ Instr.lock 0 ≠ .supplyFailure true ∧ after (.lock 0) base (fun _ => true) = true := by
  decide
/-- O3: causes at their edges: an accumulator of 999 and 1,000 mL, a full journal, no attempts left, a suspended line
without and with VALVE_FAULT; the set of a part after reset, whose principal condition is CLOCK_UNSET. -/
theorem hyp_ConditionSet :
    let high := fun (v : Volume) => conditions (base.modKept .line2 fun k => { k with unattended := v })
    let suspended := fun (f : FaultSet) => conditions (holding .suspended .close { gasDelivery 5 with faults := f })
    (high 999).unattendedFlow = false ∧ (high 1000).unattendedFlow = true ∧
      (conditions { base with journal := { base.journal with newestTicket := 4294967295 } }).journalFull = true ∧
      (conditions { base with lock := { base.lock with attempts := 0 } }).lockout = true ∧
      (suspended 0).valveFault = false ∧ (suspended (onlyFault .valveFault)).valveFault = true ∧
      (conditions State.reset).principal = 7 ∧ (conditions State.reset).bits = 64 ∧ (conditions base).principal = 0 := by
  decide
/-- O3: ends of events that leave the condition set and that change it. -/
theorem hyp_Settle :
    conditions flowing = conditions base ∧ conditions { base with lock := { base.lock with attempts := 0 } } ≠ conditions base := by
  decide
/-- O26: the last microsecond of a second, and the next; the greatest count; a parked part; a part without supply; an
empty list of due events, and a due event behind others that are not. -/
theorem hyp_TimeBaseAndIdleStep :
    let last := { base with now := 999999, clock := { count := 4294967295, isSet := true } }
    (advanceTo 999999 last).clock.count = 4294967295 ∧ (advanceTo 1000000 last).clock.count = 0 ∧
      (advanceTo 1000000 last).now / 1000000 = last.now / 1000000 + 1 ∧
      (advanceTo 5 parked).awake = 0 ∧ (advanceTo 5 parked).now = 5 ∧ base.pending = [] ∧ flowing.pending = [] ∧
      ({ base with power := { base.power with on := false } }).power.on = false ∧
      dueEvent { base with
        reports := { lines := { line1 := false, line2 := false }, device := false, lastLine := none }
        valve := { line1 := { base.valve.line1 with slot := none }, line2 := { base.valve.line2 with slot := none } } }
          = none ∧
      dueEvent { flowing with awake := 100000 } = some (.meteringTick .line1 0) ∧
      dueEvent { flowing with awake := 99999 } = some .fieldPortTake := by decide
/-- O2, O60: a command that gives a next state. -/
theorem hyp_ExecLeavesQueue : after (.endDelivery 1 1) (holding .paused .close (gasDelivery 5)) (fun _ => true) = true := by
  decide
/-- O5, O6: a well-formed command at the greatest tag, and its frame with a further byte at the command identifier. -/
theorem hyp_CommandDecodesItsFrame :
    (Command.arm 1 5107 3).wellFormed = true ∧ (255 : Nat) < 256 ∧
      (Instr.arm 255 1 5107 3).command? = some (255, .arm 1 5107 3) ∧
      (fieldFrame (blockStart base.port.address) ((Command.arm 1 5107 3).frameData 255 ++ [0xAA])).extended = true := by
  decide
/-- O7: no place free (four responses; three and a command in flight); an unknown code; a command in flight; a pending
PARK; a short frame, with STOP in flight as well. -/
theorem hyp_PortAnswersBeforeOwner :
    freePlaces (port base fun p => { p with responses := List.replicate 4 waiting }) = 0 ∧
      freePlaces (port base fun p =>
        { p with responses := List.replicate 3 waiting, inFlight := some { code := 0x42, tag := 0 } }) = 0 ∧
      0 < freePlaces base ∧ knownCode 0xEE = false ∧ knownCode 0x10 = true ∧
      0 < freePlaces (port base fun p => { p with inFlight := some { code := 0x42, tag := 0 } }) ∧
      (port base fun p => { p with pendingReset := some .park }).port.pendingReset ≠ none ∧
      commandOfData [0x16, 0] = none ∧ knownCode 0x16 = true ∧ ready base = true := by decide
/-- O5: fields at the ends of their signed widths and beyond, and the frames whose widths are the model's (entries 27, 42). -/
theorem hyp_FieldBytes :
    s2 (-32768) = [0x00, 0x80] ∧ s2 32767 = [0xFF, 0x7F] ∧ s4 (-2147483648) = [0, 0, 0, 0x80] ∧
      s4Clamped 2147483648 = [0xFF, 0xFF, 0xFF, 0x7F] ∧ s4Clamped (-2147483649) = [0, 0, 0, 0x80] ∧
      b4 0x01020304 = [4, 3, 2, 1] ∧
      (Command.loadCompartment 3 1 2400000 (-2)).frameData 7
        = [0x28, 7, 3, 1, 0x00, 0x9F, 0x24, 0x00, 0xFE, 0xFF, 0xFF, 0xFF] ∧
      ((Command.setCredential 1 0x0102 9).frameData 7).length = 20 ∧
      ((Command.setCredential 1 0x0102 9).frameData 7).getLast? = some 9 := by decide
/-- O7: response frames of 3, 8, 9 and 59 bytes, padded to 3, 8, 12 and 64; a LOCK of one byte, which lacks only its tag, and
frames one byte short and just long enough. -/
theorem hyp_ResponseFrame :
    let length := fun (n : Nat) => (responseFrame 63 0x17 9 .busy (List.replicate n 1)).data.length
    [0, 5, 6, 56].map length = [3, 8, 12, 64] ∧
      responseFrame 1 0x44 9 .frozen [] =
        { extended := true, ident := 0x0B3C0011, fd := true, brs := true, data := [0x44, 9, 20] } ∧
      commandOfData [0x44] = some .lock ∧ commandOfData (0x42 :: List.replicate 15 0) = none ∧
      commandOfData (0x45 :: List.replicate 18 0) = none ∧ (commandOfData (0x45 :: List.replicate 19 0)).isSome = true := by
  decide
/-- O8: a parked part; an edge with no reference and one 200 us after it; a wake delay at its end. -/
theorem hyp_WakeSourcesWakeThePart :
    parked.power.on = true ∧ parked.power.parked = true ∧ parked.forward.cabOff = false ∧
      (parked.pulse.get .line1).refA = none ∧
      (200 ≤ max (parked.modPulse .line2 fun p => { p with refA := some 5 }).now 205 - 5) ∧
      ({ base with power := { base.power with wakeDelay := some 50000 } }).power.wakeDelay = some 50000 ∧
      50000 ≤ (advanceTo 50000 base).awake ∧ (advanceTo 49999 base).awake < 50000 ∧ base.power.wakeDelay = none := by decide
/-- O8: the waking edge is the second A edge in turn, 200 us after the first: an integrity error, a pulse, a new reference; the
other input keeps its count. -/
theorem hyp_WakingEdge :
    let s := (parked.modPulse .line1 fun p => { p with refA := some 100, last := some .a, flow := 5 }).modPulse .line2
      fun p => { p with forward := 4, flow := 6 }
    after (.edgeEvent .line1 (.rising .a) 300) s (fun t =>
      t.power.wakeDelay = some 50000 && t.pulse.line1.errors = 1 && t.pulse.line1.forward = 1 &&
        t.pulse.line1.refA = some 300 && t.pulse.line1.flow = 0 && t.pulse.line2.forward = 4 && t.pulse.line2.flow = 0)
      = true := by decide
/-- O9, O10: a running part with overflow count 30 and with 31, references 200 us and 199 us old. -/
theorem hyp_AcceptedEdgeCountsAndTimes :
    base.power.on = true ∧ base.power.parked = false ∧
      overflowCount (advanceTo 2031615 base).awake (base.pulse.get .line1) ≤ 30 ∧
      (base.pulse.get .line1).timerStart + 2031616 ≤ (advanceTo 2031616 base).awake ∧
      (base.pulse.get .line1).refA = none ∧ (base.pulse.get .line1).refB = none ∧
      200 ≤ (advanceTo 300 base).now - 100 ∧ (advanceTo 299 base).now - 100 < 200 := by decide
/-- O10: an edge that finds the overflow count at 31, with a reference 200 us and 199 us old, takes a flow rate and a
period start that are gone. -/
theorem hyp_OtherEdgesAndOverflow :
    let s := { base with pulse := { base.pulse with line1 :=
      { PulseInput.cleared 0 with flow := 3, periodStart := true, refA := some 2031416, refB := some 2031417 } } }
    (s.pulse.get .line1).timerStart + 2031616 ≤ (advanceTo 2031616 s).awake ∧
      200 ≤ (advanceTo 2031616 s).now - 2031416 ∧ (advanceTo 2031616 s).now - 2031417 < 200 ∧
      after (.edgeEvent .line1 (.rising .a) 2031616) s
        (fun t => t.pulse.line1.flow = 0 && t.pulse.line1.forward = 1 && t.pulse.line1.periodStart) = true := by decide
/-- O10: edges in park (R17): a rejected A edge and B edge 199 us after the last, an accepted B edge after 200 us, a falling
edge; none wakes the part, and neither does the passing of time. -/
theorem hyp_EdgesInPark :
    let s := parked.modPulse .line1 fun p => { p with refA := some 100, refB := some 100, last := some .b }
    let stays := fun (e : PulserEdge) (t n : Nat) =>
      after (.edgeEvent .line1 e t) s (fun u => u.power.parked && u.pulse.line1.errors = n && u.pulse.line1.forward = 0)
    s.power.on = true ∧ s.power.parked = true ∧ stays (.rising .a) 299 1 = true ∧ stays (.rising .b) 299 1 = true ∧
      stays (.rising .b) 300 1 = true ∧ stays (.falling .a) 299 0 = true ∧
      overflowCount (advanceTo 9999999 s).awake (s.pulse.get .line1) ≤ 30 ∧
      (s.modPulse .line1 fun p => { p with timerStart := 0 }).awake < 2031616 ∧
      2031616 ≤ ({ s with awake := 2031616 } : State).awake := by decide
/-- O30, O32: an IDLE line without a context refuses START, RESUME and END with STATE. -/
theorem hyp_IdleLineRefuses :
    ready base = true ∧ base.lineState .line1 = .idle ∧ base.ctx .line1 = none ∧
      after (.start 1 1) base (fun t => t.port.responses.map (·.frame.data) = [[0x13, 1, 4]]) = true ∧
      after (.resume 1 1) base (fun t => t.port.responses.map (·.frame.data) = [[0x15, 1, 4]]) = true ∧
      after (.endDelivery 1 1) base (fun t => t.port.responses.map (·.frame.data) = [[0x17, 1, 4]]) = true := by decide
/-- O11: a positive divisor, and a band with bound 0. -/
theorem hyp_RoundingsAndBandSelection : (0 : Int) < 1 ∧ bands22.head? = some { lower := 0, correction := 4000 } := by
  decide
/-- O12: no temperature; IDLE with and without a defined hose product; a delivery with a temperature. -/
theorem hyp_TickUsesVolumeCorrection :
    (State.reset.line.get .line1).temp = none ∧ State.reset.lineState .line1 = .idle ∧
      (State.reset.line.get .line1).kept.hose = .unknown ∧
      base.lineState .line1 = .idle ∧ (base.line.get .line1).kept.hose = .product 0 ∧
      base.cal.products[(0 : ProductNo)].defined = true ∧ (base.line.get .line1).temp = some { value := 500, since := 0 } ∧
      flowing.lineState .line1 ≠ .idle ∧ flowing.ctx .line1 = some (gasDelivery 212400) ∧
      (flowing.line.get .line1).temp = some { value := 500, since := 0 } := by decide
/-- O12, R30: factors at the end of the range and beyond it: 1,100,000 and 1,100,020, 900,000 and 899,980. -/
theorem hyp_TickClamps :
    let part := fun (tref value : Int) => line1 { base with
      cal := { base.cal with products := base.cal.products.set 0 { gasOil with alpha := 2000, beta := 0, tref := tref } } }
      fun x => { x with temp := some { value := value, since := 0 } }
    tickClamps (part 1000 (-4000)) .line1 = false ∧ tickClamps (part 1001 (-4000)) .line1 = true ∧
      tickClamps (part 1000 6000) .line1 = false ∧ tickClamps (part 999 6000) .line1 = true ∧
      tickClamps State.reset .line1 = false := by decide
/-- O14: ten pulses at K = 100 (100 mL) at a tick in PAUSED, of a GROSS and of a NET product, with their marks: LATE_FLOW, and
the basis increment in billed. -/
theorem hyp_BasisAndLateFlow :
    let s := (holding .paused .close { gasDelivery 0 with gross := 0, net := 0 }).modPulse .line1
      fun p => { p with forward := 10 }
    let gross := { s with cal := { s.cal with products := s.cal.products.set 0 { gasOil with basis := .gross } } }
    let billedIs := fun (pick : Delivery → Volume) (t : State) => (t.ctx .line1).any fun d =>
      d.billed = pick d && d.flags.lateFlow && d.gross ≠ d.net
    after (.meteringTick .line1 100000) s (billedIs (·.net)) = true ∧
      after (.meteringTick .line1 100000) gross (billedIs (·.gross)) = true := by decide
/-- O13, O14: a tick due at its instant, with K of 0 and above 0, with and without a context, in IDLE and in a state that
routes, with the air flag set and clear. -/
theorem hyp_TickConvertsPulses :
    flowing.power.on = true ∧ flowing.power.parked = false ∧
      (flowing.line.get .line1).nextTick ≤ (advanceTo 100000 flowing).awake ∧ 0 < (flowing.cal.lines.get .line1).k ∧
      (flowing.cal.lines.get .line2).k = 0 ∧ flowing.lineState .line2 = .idle ∧
      flowing.lineState .line1 ≠ .idle ∧ flowing.lineState .line1 ≠ .armed ∧ flowing.lineState .line1 ≠ .closing ∧
      flowing.ctx .line1 = some (gasDelivery 212400) ∧ (flowing.line.get .line1).airFlag = false ∧
      (line1 flowing fun x => { x with airFlag := true, temp := none }).ctx .line1 = some (gasDelivery 212400) := by decide
/-- O15: a flowing line with no cause met, with PRESET met at the stop threshold, with the slowdown threshold met, and at
OPEN_SLOW with the soft-start volume met; a flow rate of 0 and above, the timer stopped and running. -/
theorem hyp_FlowingLineTests :
    flowing.ctx .line1 = some (gasDelivery 212400) ∧ flowing.lineState .line1 = .flowing ∧
      (flowing.valve.get .line1).commanded ≠ .close ∧ stopCauses flowing .line1 (gasDelivery 212400) = [] ∧
      stopCauses (holding .slowdown .openSlow (gasDelivery 498500)) .line1 (gasDelivery 498500) = [.preset] ∧
      stopCauses (holding .flowing .openFull (gasDelivery 480000)) .line1 (gasDelivery 480000) = [] ∧
      reached (slowdownThreshold flowing .line1 (gasDelivery 480000)) 480000 = true ∧
      reached (slowdownThreshold flowing .line1 (gasDelivery 2000)) 2000 = false ∧
      stopCauses (holding .flowing .openSlow (gasDelivery 2000)) .line1 (gasDelivery 2000) = [] ∧
      (flowing.pulse.get .line1).flow = 0 ∧ (flowing.line.get .line1).noFlow = none := by decide
/-- O16: the states outside FLOWING and SLOWDOWN, with no fault met and with PULSER_FAULT met (limit 8). -/
theorem hyp_StoppedLineTests :
    meterFaults (holding .paused .close { gasDelivery 5 with integrityErrors := 8 }) .line1
        { gasDelivery 5 with integrityErrors := 8 } = [] ∧
      meterFaults (holding .stopping .close { gasDelivery 5 with integrityErrors := 9 }) .line1
        { gasDelivery 5 with integrityErrors := 9 } = [.pulserFault] ∧
      (holding .airHold .close (gasDelivery 5)).lineState .line1 = .airHold ∧
      (holding .suspended .close (gasDelivery 5)).lineState .line1 = .suspended ∧
      (holding .interrupted .close (gasDelivery 5)).lineState .line1 = .interrupted ∧
      (holding .armed .close (gasDelivery 5)).ctx .line1 = some (gasDelivery 5) ∧ base.ctx .line1 = none ∧
      base.lineState .line1 = .idle := by decide

/-- A STOPPING line whose CLOSE is confirmed. -/
def stopping (d : Delivery) : State :=
  (holding .stopping .close d).modValve .line1 fun v => { v with confirmed := true }

/-- O18, O19: a line with a context and a target; the completion of STOPPING not ready, ready without adaptation (preset
49,999) and with it (preset 50,000). -/
theorem hyp_StoppingCompletesAndAdapts :
    (stopping { gasDelivery 500412 with stopTarget := some .finished }).lineState .line1 = .stopping ∧
      ((stopping (gasDelivery 5)).valve.get .line1).confirmed = true ∧
      ((holding .stopping .close (gasDelivery 5)).valve.get .line1).confirmed = false ∧
      ((stopping (gasDelivery 5)).pulse.get .line1).flow = 0 ∧
      adapts { gasDelivery 5 with stopCause := some .preset, faults := onlyFault .preset, preset := some 49999 } false
        = false ∧
      adapts { gasDelivery 5 with stopCause := some .preset, faults := onlyFault .preset, preset := some 50000 } false
        = true := by decide
/-- O18: several causes at a time, on a line with a target, and on a PAUSED line with a stop cause and without one. -/
theorem hyp_StopCausesSetTheTarget :
    let d := { gasDelivery 5 with stopTarget := some .paused, stopCause := some .noFlow }
    let suspended := fun (d : Delivery) => enterSuspended .line1 [.pulserFault, .reverseFlow] (holding .paused .close d)
    (holding .stopping .close d).ctx .line1 = some d ∧ worstTarget [.preset, .pulserFault] = .suspended ∧
      ((suspended d).ctx .line1).map (fun (x : Delivery) => (x.stopCause, x.stopTarget)) =
        some (some .noFlow, some .suspended) ∧
      ((suspended (gasDelivery 5)).ctx .line1).map (·.stopCause) = some (some .pulserFault) := by decide
/-- O18, O19: the order of the targets, and the states that they name. -/
theorem hyp_Targets :
    worstTarget [.operatorPause, .operatorStop] = .finished ∧ worstTarget [.operatorStop, .airTimeout, .noFlow] = .suspended ∧
      (completeStopping .line1 (stopping { gasDelivery 5 with stopTarget := some .paused })).lineState .line1 = .paused ∧
      (completeStopping .line1 (stopping { gasDelivery 5 with stopTarget := some .finished })).lineState .line1 = .finished ∧
      (completeStopping .line1 (stopping { gasDelivery 5 with stopTarget := some .suspended })).lineState .line1 = .suspended := by
  decide
/-- O20: each timer due at its deadline. -/
theorem hyp_TimerExpiriesAct :
    noFlowDue (line1 flowing fun x => { x with noFlow := some 0 }) .line1 = true ∧
      airHoldDue (advanceTo 120000000 (holding .airHold .close (gasDelivery 5))) .line1 = true ∧
      airClearDue (line1 flowing fun x => { x with airClear := some 0 }) .line1 = true ∧
      ((holding .airHold .close (gasDelivery 5)).line.get .line1).resume = some .flowing ∧
      airSilenceDue (advanceTo 5000000 flowing) .line1 = true ∧
      airSilenceDue (advanceTo 5000000 (holding .airHold .close (gasDelivery 5))) .line1 = true ∧
      reportDue (advanceTo 1000000 flowing) .line1 = true ∧ (0 : Nat) ≤ (advanceTo 3000000 flowing).awake := by decide
/-- O21: a window that ends with send counts 2 and 3 of CLOSE, and 1 and 2 of an open stage; a retry due. -/
theorem hyp_ValveTimersResendAndEscalate :
    confirmDue (advanceTo 500000 (base.modValve .line1 fun v => { v with sendCount := 2 })) .line1 = true ∧
      confirmDue (advanceTo 500000 (base.modValve .line1 fun v => { v with sendCount := 3 })) .line1 = true ∧
      confirmDue (advanceTo 500000 flowing) .line1 = true ∧ (flowing.valve.get .line1).sendCount < 2 ∧
      confirmDue (advanceTo 500000 (flowing.modValve .line1 fun v => { v with sendCount := 2 })) .line1 = true ∧
      retryDue (base.modValve .line1 fun v => { v with escalated := true, retryTimer := some 0 }) .line1 = true := by decide
/-- O13, O14, O20, O21: the timers of a line and of a valve, and its tick, one microsecond before their deadlines, stopped, in
park, and in a state of the line or valve in which they are of no concern. -/
theorem hyp_ExpiriesThatRest :
    let held := holding .airHold .close (gasDelivery 5)
    let noFlow := line1 flowing fun x => { x with noFlow := some 1 }
    let retry := base.modValve .line1 fun v => { v with escalated := true, retryTimer := some 1 }
    noFlowDue noFlow .line1 = false ∧ noFlowDue flowing .line1 = false ∧ noFlowDue (advanceTo 1 noFlow) .line1 = true ∧
      noFlowDue (line1 base fun x => { x with noFlow := some 0 }) .line1 = false ∧
      airHoldDue (advanceTo 119999999 held) .line1 = false ∧
      airHoldDue (line1 flowing fun x => { x with airHold := some 0 }) .line1 = false ∧
      airClearDue (line1 flowing fun x => { x with airClear := some 1 }) .line1 = false ∧
      airSilenceDue (advanceTo 4999999 flowing) .line1 = false ∧ reportDue (advanceTo 999999 flowing) .line1 = false ∧
      reportDue base .line1 = false ∧ airSilenceDue (advanceTo 5000000 parked) .line1 = false ∧
      confirmDue (advanceTo 499999 flowing) .line1 = false ∧ confirmDue (advanceTo 500000 parked) .line1 = false ∧
      confirmDue (advanceTo 500000 (base.modValve .line1 fun v => { v with confirmed := true })) .line1 = false ∧
      retryDue retry .line1 = false ∧ retryDue (advanceTo 1 retry) .line1 = true ∧
      retryDue (retry.modValve .line1 fun v => { v with escalated := false, retryTimer := some 0 }) .line1 = false ∧
      after (.meteringTick .line1 99999) flowing (fun t =>
        t.now = 99999 && t.pulse = flowing.pulse && t.line = flowing.line) = true ∧
      after (.meteringTick .line1 100000) parked (fun t => t.now = 100000 && t.awake = 0 && t.line = parked.line) = true := by
  decide
/-- O21: an open stage that fails on a line outside FLOWING and SLOWDOWN. -/
theorem hyp_OpenFailureOutsideFlow :
    let s := base.modValve .line1 fun v => { v with commanded := .openSlow, sendCount := 2 }
    confirmDue (advanceTo 500000 s) .line1 = true ∧ s.lineState .line1 = .idle := by decide
/-- O22 to O25: the factory identifiers are distinct and have their owners; data of every length and value; the lines and
valves of the clauses. -/
theorem hyp_FieldFrames :
    (protectedSet base.cal).Nodup ∧ base.forward.fieldOff = false ∧ base.power.wakeDelay = none ∧
      inBlock base (fieldFrame 0x18E40020 []) = false ∧
      fieldOwner base.cal (fieldFrame 0x18E40020 [0, 0xF4]) = some (.probe .line1) ∧
      fieldOwner base.cal (fieldFrame 0x18E40130 [1]) = some (.air .line2) ∧
      fieldOwner base.cal (fieldFrame 0x18E40011 [3]) = some (.valve .line1) ∧
      Position.code .fault = 3 ∧ toSigned 16 (0x60 + 256 * 0xF0) = -4000 ∧ toSigned 16 (0x5F + 256 * 0xF0) = -4001 ∧
      toSigned 16 (0x70 + 256 * 0x17) = 6000 ∧ toSigned 16 (0x71 + 256 * 0x17) = 6001 ∧
      (flowing.valve.get .line1).commanded = .openFull ∧ (flowing.valve.get .line1).confirmed = false ∧
      ((stopping (gasDelivery 5)).valve.get .line1).commanded = .close := by decide
/-- O27: ARM, each check failing with the earlier ones passed, and none failing. -/
theorem hyp_Arm :
    ready base = true ∧ lineNumber .line1 = 1 ∧ ready flowing = true ∧ flowing.lineState .line1 ≠ .idle ∧
      (base.cal.lines.get .line2).k = 0 ∧ base.lineState .line2 = .idle ∧ (base.cal.lines.get .line1).k ≠ 0 ∧
      findOrder base.orders 1 = none ∧ (findOrder flowing.orders 5107).map (·.bound) = some (some .line1) ∧
      (findOrder base.orders 5107).map (·.bound) = some none ∧ base.cal.products[(0 : ProductNo)].defined = true ∧
      State.reset.cal.products[(0 : ProductNo)].defined = false ∧ base.compartments[(2 : CompartmentNo)].product = some 0 ∧
      base.compartments[(5 : CompartmentNo)].product ≠ some 0 ∧ (base.line.get .line1).kept.hose = .product 0 ∧
      (State.reset.line.get .line1).kept.hose ≠ .product 0 ∧ base.compartments[(2 : CompartmentNo)].granted = none ∧
      flowing.compartments[(2 : CompartmentNo)].granted ≠ none ∧
      flowing.compartments[(2 : CompartmentNo)].granted ≠ some .line2 ∧
      base.compartments[(2 : CompartmentNo)].reserve < base.compartments[(2 : CompartmentNo)].remaining ∧
      base.compartments[(5 : CompartmentNo)].remaining ≤ base.compartments[(5 : CompartmentNo)].reserve ∧
      canReserve base.journal .delivery = true ∧
      canReserve { base.journal with newestSeq := 4294967295 } .delivery = false ∧
      canReserve { base.journal with newestSeq := 4294967294, newestTicket := 4294967294 } .delivery = true := by decide
/-- O28: ARM FLUSH of the same state, from a compartment with and without a product. -/
theorem hyp_ArmFlush :
    ready base = true ∧ base.compartments[(5 : CompartmentNo)].product = none ∧
      base.compartments[(2 : CompartmentNo)].product = some 0 ∧
      canReserve { base.journal with newestSeq := 4294967295 } .flush = false ∧ canReserve base.journal .flush = true := by
  decide
/-- O29, O30, O31, O32: the line states of DISARM, START, RESUME, PAUSE, STOP and END, with a context; the temperature
absent; the compartment at its reserve; billed at the thresholds; a command in flight with a place free. -/
theorem hyp_LineCommands :
    ready (holding .armed .close (gasDelivery 0)) = true ∧ (holding .armed .close (gasDelivery 0)).lineState .line1 = .armed ∧
      (holding .armed .close (gasDelivery 0)).ctx .line1 = some (gasDelivery 0) ∧
      ready (holding .paused .close (gasDelivery 498500)) = true ∧
      (line1 (holding .paused .close (gasDelivery 5)) fun x => { x with temp := none }).lineState .line1 = .paused ∧
      presetReached (holding .paused .close (gasDelivery 498500)) .line1 (gasDelivery 498500) = true ∧
      presetReached (holding .paused .close (gasDelivery 498499)) .line1 (gasDelivery 498499) = false ∧
      reached (slowdownThreshold base .line1 (gasDelivery 480000)) 480000 = true ∧
      (line1 (holding .armed .close (gasDelivery 0)) fun x => { x with airFlag := true }).lineState .line1 = .armed ∧
      compartmentLow (flowing.modCompartment 2 fun k => { k with remaining := 50000 }) 2 = true ∧
      compartmentLow flowing 2 = false ∧ (holding .interrupted .close (gasDelivery 5)).lineState .line1 = .interrupted ∧
      (let busy := port flowing fun p => { p with
          inFlight := some { code := 0x42, tag := 0 }, responses := List.replicate 2 waiting }
       busy.port.responses.length + (if busy.port.inFlight = none then 0 else 1) < 4) ∧
      flowing.port.pendingReset = none ∧ (holding .stopping .close (gasDelivery 5)).lineState .line1 = .stopping ∧
      (holding .finished .close (gasDelivery 5)).lineState .line1 = .finished := by decide
/-- O32: an exact half of a cent is rounded up, less than a half down; an amount that is clamped. -/
theorem hyp_EndQueuesRecord :
    amountOf 5000 1 = 1 ∧ amountOf 4999 1 = 0 ∧ amountOf 0 689 = 0 ∧ amountOf 50000000 4294967295 = 4294967295 ∧
      20000 * ((1 : Nat) : Int) ≤ 2 * (5000 * 1) + 10000 ∧ (2 * (5000 * 1) + 10000 : Int) < 20000 * (1 + 1) ∧
      (holding .paused .close (gasDelivery 5)).ctx .line1 = some (gasDelivery 5) := by decide
/-- O34: fields at the ends of their ranges, a known number, a full queue, positions in and beyond the queue. -/
theorem hyp_OrderCommands :
    orderFits 1 10000 99999 = true ∧ orderFits 1 50000000 0 = true ∧ orderFits 1 9999 0 = false ∧
      orderFits 1 0 100000 = false ∧ ready base = true ∧ base.orders.length < 16 ∧
      (findOrder base.orders 5107).isSome = true ∧ (findOrder base.orders 5108).isSome = false ∧
      16 ≤ (List.replicate 16 (base.orders.headD
        { number := 0, product := 0, preset := 0, price := 0, customer := 0, bound := none })).length ∧
      base.orders[1]? = none ∧ (base.orders[0]?).isSome = true := by decide
/-- O35: volumes and reserves at the ends of their ranges; an empty load; a granted compartment. -/
theorem hyp_CompartmentAndProductCommands :
    loadVolumesFit (some 0) 20000000 1000000 = true ∧ loadVolumesFit (some 0) 20000001 0 = false ∧
      loadVolumesFit none 0 0 = true ∧ loadVolumesFit none 1 0 = false ∧ loadVolumesFit (some 0) (-1) 0 = false ∧
      flowing.compartments[(2 : CompartmentNo)].granted ≠ none ∧ base.compartments[(2 : CompartmentNo)].granted = none ∧
      loadedProduct base 1 = some (some 0) ∧ loadedProduct base 2 = none ∧ loadedProduct base 0 = some none := by decide

/-- A journal record with a sequence number, INTACT or, with another stored check value, DAMAGED. -/
def record (n : Nat) (intact released : Bool) : JournalRecord :=
  let fields := StoredFields.written (.calibration kRecord)
  let check := Config.checkValue n .calibration (storedBytes .calibration fields)
  { sequence := n, kind := .calibration, released := released, contents := fields,
    check := if intact then check else check + 1 }

/-- The base state with a record 3, the newest being 4. -/
def withRecord (intact : Bool) : State :=
  { base with journal := { base.journal with records := [record 3 intact true], newestSeq := 4, newestWritten := 3 } }

/-- O37, O52: an INTACT record and a DAMAGED one, whatever the check value is. -/
theorem hyp_Integrity : (record 3 true true).intact = true ∧ (record 3 false true).intact = false :=
  ⟨decide_eq_true rfl, decide_eq_false (Nat.succ_ne_self _)⟩

/-- R128: the read of a DAMAGED record makes JOURNAL_DAMAGE active, and that of an INTACT one does not. -/
theorem test_damageFound (b : Bool) :
    ownerReadRecord 3 (withRecord b) = readOut (record 3 b true) (withRecord b) ∧
      (readOut (record 3 b true) (withRecord b)).1.journalDamage = !b := by
  cases b
  · exact ⟨rfl, by simp only [readOut, hyp_Integrity.2]; rfl⟩
  · exact ⟨rfl, by simp only [readOut, hyp_Integrity.1]; rfl⟩

/-- The fields of `kRecord` as bits in the journal store, byte by byte from R192: event count 213, time 41,210, scope 1, item
kind 0, band 0, credential 2; 100 and 101. -/
def kFields : RawFields :=
  { mask := 1, first := 0x020000010000A0FA000000D5, second := 0x650000000000000064 }

/-- Fields of which nothing is left: every byte 0xFF, which no line, product or code of R192 has. -/
def lostFields : RawFields := { mask := 0xFFFF, first := BitVec.allOnes 192, second := ~~~0#408 }

/-- R124, R192: the bits of a record's layout spell that record, and read out as its bytes. -/
theorem test_rawFields :
    calibrationOf (.changed kFields) = some kRecord ∧
      storedFields1 .calibration (.changed kFields) = recordFields1 (.calibration kRecord) ∧
      storedFields2 .calibration (.changed kFields) = recordFields2 (.calibration kRecord) ∧
      storedMask (.changed kFields) = recordMask (.calibration kRecord) := by decide
/-- O39, R128: a failure that leaves the bits of an INTACT record and its check value leaves it INTACT, and one that changes the
check value alone leaves it DAMAGED. -/
theorem test_checkAlone :
    let kept := (record 3 true true).check
    storedBytes .calibration (.changed kFields) = storedBytes .calibration (record 3 true true).contents ∧
      (damageRecord 3 ⟨kFields, kept⟩ (record 3 true true)).intact = true ∧
      (damageRecord 3 ⟨kFields, kept + 1⟩ (record 3 true true)).intact = false := by
  have h : storedBytes .calibration (.changed kFields) = storedBytes .calibration (record 3 true true).contents := by decide
  refine ⟨h, (intact_iff _).mpr ?_, (not_intact_iff _).mpr ?_⟩
  · exact (congrArg (Config.checkValue 3 .calibration) h).symm
  · exact fun e => Nat.succ_ne_self _ (e.trans (congrArg (Config.checkValue 3 .calibration) h))
/-- O37, O39, O52, R128: lost fields are read out as they stand, in 12, 24, 16 and 51 bytes, and name no item; a failure at
another sequence number leaves the record. -/
theorem hyp_StorageMediumFailure :
    damageRecord 3 ⟨lostFields, 5⟩ (record 3 true true) = { record 3 true true with contents := .changed lostFields, check := 5 } ∧
      damageRecord 4 ⟨lostFields, 5⟩ (record 3 true true) = record 3 true true ∧
      storedFields1 .calibration (.changed lostFields) = List.replicate 12 0xFF ∧
      storedFields1 .flush (.changed lostFields) = List.replicate 24 0xFF ∧
      storedFields2 .calibration (.changed lostFields) = List.replicate 16 0xFF ∧
      storedFields2 .delivery (.changed lostFields) = List.replicate 51 0xFF ∧
      calibrationOf (.changed lostFields) = none := ⟨rfl, rfl, by decide, by decide, by decide, by decide, by decide⟩
/-- O52: of two CALIBRATION records the one with the greater number is the newest, whatever records of
other kinds stand beside them. -/
theorem hyp_NewestOfTwo :
    newestCalibration { base.journal with
      records := [{ record 5 true true with kind := .flush }, record 5 true false, record 3 true true,
        { record 7 true true with kind := .delivery }] }
      = some (record 5 true false) := rfl

/-- O36 to O38: a journal with room, and one without (1,024 records) but with a released record; record numbers 0,
present, absent and beyond the newest; a reserved number; responses 2 and 3. -/
theorem hyp_JournalCommands :
    (withRecord true).journal.records.length + (withRecord true).journal.reservations.length < 1024 ∧
      (findRecord (withRecord false).journal 3).isSome = true ∧ (findRecord (withRecord false).journal 4).isSome = false ∧
      writePending writing.journal 9024 = true ∧ writePending (withRecord true).journal 3 = false ∧
      (withRecord true).journal.newestSeq < 5 ∧ (withRecord true).journal.newestWritten < 4 ∧
      3 ≤ (withRecord true).journal.newestWritten ∧
      ready (port (withRecord true) fun p => { p with responses := List.replicate 3 waiting }) = true ∧
      (port (withRecord true) fun p => { p with responses := List.replicate 2 waiting }).port.responses.length < 3 := by
  decide

/-- O36 to O38: a journal without room for another record. -/
theorem hyp_JournalCommands_full : 1024 ≤ (List.replicate 1024 (record 3 true true)).length :=
  Nat.le_of_eq List.length_replicate.symm

/-- A line in CLOSING with its write queued. -/
def closing : State :=
  let s := holding .closing .close (gasDelivery 500412)
  { s with journal := { s.journal with
      newestSeq := 9021
      reservations := [{ holder := .line .line1, kind := .delivery, sequence := some 9021 }]
      queue := [{ holder := .line .line1, sequence := 9021,
                  contents := .delivery (buildRecord s .line1 (gasDelivery 500412)) }] } }

/-- The write of a line's delivery record. -/
def lineWrite : JournalWrite :=
  { holder := .line .line1, sequence := 9021, contents := .delivery (buildRecord closing .line1 (gasDelivery 500412)) }

/-- O39: the kind of a completed record: of a FLUSH reservation, of a DELIVERY reservation, and of a calibration write. -/
theorem hyp_WriteKind :
    writeKind closing.journal (closing.journal.queue.headD lineWrite) = .delivery ∧
      writeKind { closing.journal with
        reservations := [{ holder := .line .line1, kind := .flush, sequence := some 9021 }] } lineWrite = .flush ∧
      writeKind writing.journal (writing.journal.queue.headD lineWrite) = .calibration := by decide
/-- O39: a line's write and a calibration write at the head, with its command in flight. -/
theorem hyp_WriteCompletionsAndDamage :
    closing.power.on = true ∧ closing.power.releaseWaiting = false ∧
      closing.journal.queue.map (·.holder) = [.line .line1] ∧ closing.ctx .line1 = some (gasDelivery 500412) ∧
      writing.journal.queue.map (·.contents) = [.calibration kRecord] ∧
      writing.port.inFlight = some { code := 0x42, tag := 1 } := by decide
/-- A session with a write of an item queued and its command in flight. -/
def writingItem (item : RecordItem) (new : CalValue) (code : Nat) : State :=
  { writing with
    port := { writing.port with inFlight := some { code := code, tag := 1 } }
    lock := { writing.lock with staged := some { which := .fleet, value := 9 } }
    journal := { writing.journal with
      queue := [{ holder := .calibration, sequence := 9024,
                  contents := .calibration { kRecord with item := item, newValue := new } }] } }

/-- O39: the completions of a credential, of the lock and of a valve identifier. -/
theorem hyp_CalibrationCompletions :
    after .writeCompletion (writingItem (.credential .fleet) (.lock true true false) 0x45) (fun t =>
        t.lock.fleet = some 9 && t.lock.inspector = some 7 && t.lock.staged = none && t.cal.eventCount = 213) = true ∧
      after .writeCompletion (writingItem .lock (.lock false false false) 0x46) (fun t =>
        t.lock.fleet = none && t.lock.inspector = none && t.lock.state = .unlocked .inspector) = true ∧
      after .writeCompletion (writingItem (.item (.valveId .line1)) (.int 77) 0x42) (fun t =>
        t.cal.lines.line1.valveId = 77 && t.valve.line1.slot = some .close && t.valve.line1.reported = none) = true := by
  decide
/-- O40 to O42: selectors that fit and one that does not; the checks of a calibration write passed and failed, values at
the ends of a range. -/
theorem hyp_CalibrationCommands :
    ready unlockedSession = true ∧ selectorOf 3 0 0 = none ∧ selectorOf 24 14 0 = some (.basis 7) ∧
      selectorOf 1 2 5 = some (.band .line1 5) ∧ selectorOf 1 2 6 = none ∧
      itemFits base.cal (.kFactor .line1) (.int 10) = true ∧ itemFits base.cal (.kFactor .line1) (.int 9) = false ∧
      itemFits base.cal (.kFactor .line1) (.int 2000) = true ∧ itemFits base.cal (.band .line1 4) (.band 1800 1900 true) = false ∧
      itemFits base.cal (.band .line1 4) (.band 2400 1900 true) = true ∧
      itemFits base.cal (.probeId .line1) (.int 0x18E40011) = false ∧
      unlockedSession.port.previous = some { code := 0x40, status := .answered .ok } ∧
      session.port.previous ≠ some { code := 0x40, status := .answered .ok } ∧
      canReserve unlockedSession.journal .calibration = true ∧ session.lock.state = .locked ∧
      canReserve { base.journal with newestSeq := 4294967295 } .calibration = false := by decide
/-- O40: scopes, kinds and band indices at the ends of their ranges, and the band index that is not read. -/
theorem hyp_Selectors :
    selectorOf 0 9 77 = some .pumpStopId ∧ selectorOf 0 8 0 = none ∧ selectorOf 0 15 0 = none ∧
      selectorOf 2 8 77 = some (.airId .line2) ∧ selectorOf 2 9 0 = none ∧ selectorOf 16 10 0 = none ∧
      selectorOf 17 10 0 = some (.defined 0) ∧ selectorOf 17 9 0 = none ∧ selectorOf 24 15 0 = none ∧
      selectorOf 25 10 0 = none ∧
      itemValue base.cal (.band .line1 3) = .band 2000 1800 true ∧ (base.cal.lines.get .line1).bands.length = 4 ∧
      itemValue base.cal (.band .line1 4) = .band 0 0 false ∧ itemValue base.cal (.beta 0) = .int 500 := by decide
/-- O42: values at the ends of the ranges of R138 to R140, accepted and refused. -/
theorem hyp_ItemRanges :
    let c := base.cal
    let fits := fun (sel : ItemSel) (xs : List Int) => xs.map fun x => itemFits c sel (.int x)
    fits (.kFactor .line1) [-1, 0, 1, 9, 10, 2000, 2001] = [false, true, false, false, true, true, false] ∧
      fits (.bandCount .line1) [0, 1, 4, 5] = [false, true, true, false] ∧
      fits (.integrityLimit .line1) [0, 1, 64, 65] = [false, true, true, false] ∧
      fits (.reverseLimit .line1) [-1, 0, 5000, 5001] = [false, true, true, false] ∧
      fits (.hoseVolume .line1) [-1, 0, 200000, 200001] = [false, true, true, false] ∧
      fits (.valveId .line1) [0x1FFFFFFF, 0x1FFFFFFE, 0x0B3BFFFF, 0x0B3BFFFE, 0x0B3C03FF, 0x0B3C0400, 0x18E4001F, 0x18E4001E]
        = [false, true, false, true, false, true, false, true] ∧
      fits .pumpStopId [-1, 0, 0x1FFFFFFF, 0x20000000, 0x18E40011] = [false, true, true, false, false] ∧
      fits (.defined 0) [-1, 0, 1, 2] = [false, true, true, false] ∧
      fits (.alpha 0) [-1, 0, 2000, 2001] = [false, true, true, false] ∧
      fits (.beta 0) [-1, 0, 5000, 5001] = [false, true, true, false] ∧
      fits (.tref 0) [-1001, -1000, 3000, 3001] = [false, true, true, false] ∧
      fits (.basis 0) [-1, 0, 1, 2] = [false, true, true, false] ∧
      itemFits c (.band .line1 0) (.band 0 50000 true) = true ∧ itemFits c (.band .line1 0) (.band 1 0 true) = false ∧
      itemFits c (.band .line1 4) (.band 65535 (-50000) true) = true ∧
      itemFits c (.band .line1 4) (.band 65536 0 true) = false ∧ itemFits c (.band .line1 4) (.band 2001 50001 true) = false ∧
      itemFits c (.band .line1 5) (.band 65535 0 true) = false := by decide
/-- O42: a band appended, a band replaced, and a table cut. -/
theorem hyp_ItemsAfterChange :
    let appended := setItem base.cal (.band .line1 4) (.band 2400 1900 true)
    let cut := setItem base.cal (.bandCount .line1) (.int 3)
    itemValue appended (.bandCount .line1) = .int 5 ∧ itemValue appended (.band .line1 4) = .band 2400 1900 true ∧
      itemValue cut (.band .line1 3) = .band 0 0 false ∧ itemValue cut (.band .line1 2) = itemValue base.cal (.band .line1 2) ∧
      cut.eventCount = 212 := by decide
/-- O42: the factory calibration set is one to start from. -/
theorem hyp_AcceptedValues : itemFits Calibration.factory (.kFactor .line1) (.int 2000) = true := by decide
/-- O43, O44: lock states, credentials, levels, attempts and frozen, as the clauses take them; a relock timer at its
deadline. -/
theorem hyp_LockCommands :
    ready session = true ∧ session.lock.frozen = false ∧ session.lock.attempts ≠ 0 ∧ session.lock.state = .locked ∧
      unlockedSession.lock.state = .unlocked .inspector ∧ base.lock.state = .opened ∧
      CredentialKind.code .fleet = 1 ∧ CredentialKind.code .inspector = 2 ∧ CredentialKind.ofCode 3 = none ∧
      session.lock.inspector = some 7 ∧ session.lock.strict = false ∧
      relockDue (advanceTo 900000000 unlockedSession) = true ∧
      relockDue (advanceTo 899999999 unlockedSession) = false ∧ relockDue (advanceTo 900000000 session) = false := by decide
/-- O45: indices 23 and 24, codes and identifiers at the ends of their ranges. -/
theorem hyp_PassTableCommands :
    passIndexOfNumber 23 = some 23 ∧ passIndexOfNumber 24 = none ∧
      (carriedEntry 1 0x1FFFFFFF 0x1FFFFFFF 2 2 1).isSome = true ∧ carriedEntry 2 0 0 0 0 0 = none ∧
      carriedEntry 0 0x20000000 0 0 0 0 = none ∧ carriedEntry 0 0 0x20000000 0 0 0 = none ∧
      carriedEntry 0 0 0 3 0 0 = none ∧ carriedEntry 0 0 0 0 3 0 = none ∧ carriedEntry 0 0 0 0 0 2 = none := by decide
/-- O46: frames inside the block (its first and last identifier) and outside, protected and unowned. -/
theorem hyp_ArrivalsAreDroppedOrLookedUp :
    inBlock base (fieldFrame 0x0B3C0000 []) = true ∧ inBlock base (fieldFrame 0x0B3C000F []) = true ∧
      inBlock base (fieldFrame 0x0B3C0010 []) = false ∧ isProtected base.cal (fieldFrame 0x18E40011 []) = true ∧
      isProtected base.cal (fieldFrame 0x18E40300 []) = false ∧ fieldOwner base.cal (fieldFrame 0x18E40300 []) = none ∧
      base.power.holdup = false := by decide
/-- O46: a part in the wake delay and a part in holdup, with a frame at the command identifier, one in the block, and one
that nothing owns. -/
theorem hyp_ArrivalsOutsideService :
    let waking := { base with power := { base.power with wakeDelay := some 50000 } }
    let held := { base with power := { base.power with holdup := true } }
    waking.power.parked = false ∧ waking.power.wakeDelay ≠ none ∧ held.power.parked = false ∧
      held.power.wakeDelay = none ∧ held.power.holdup = true ∧ parked.power.parked = true ∧
      after (.cabFrameArrival (fieldFrame 0x0B3C0000 [0x44, 1])) held (fun t =>
        t.port.previous = none && t.port.responses = []) = true ∧
      after (.fieldFrameArrival (fieldFrame 0x0B3C0001 [])) held (fun t =>
        t.forward.countToCab = base.forward.countToCab) = true ∧
      after (.fieldFrameArrival (fieldFrame 7 [])) held (fun t => t.forward.toCab = []) = true := by decide

/-- A pass entry for one identifier. -/
def passEntry (a : Action) : PassEntry :=
  { inUse := true, direction := .cabToField, matchValue := 5, mask := 0x1FFFFFFF, action := a, gate := .line1,
    persist := false }

/-- O47: an entry that decides and none that does; the gate open and shut; FIFOs of 31 and 32 frames. -/
theorem hyp_LookupDecidesTheFrame :
    entryMatches .cabToField 5 (passEntry .passWhenFlowing) = true ∧
      (∀ k : Fin 24, entryMatches .cabToField 5 base.forward.effect[k] = false) ∧
      gateOpen flowing .line1 = true ∧ gateOpen base .either = false ∧
      (List.replicate 31 (fieldFrame 5 [])).length < 32 ∧ ¬(List.replicate 32 (fieldFrame 5 [])).length < 32 ∧
      base.settings.toField = .drop ∧ base.settings.toCab = .pass := by decide

/-- A state with nothing pending at the field port but its FIFO. -/
def quietField (frames : List Frame) : State :=
  { base with
    valve := { line1 := { base.valve.line1 with slot := none }, line2 := { base.valve.line2 with slot := none } }
    forward := { base.forward with toField := frames } }

/-- O48, O49: what each port finds: each slot alone, a FIFO with protected frames before another, only protected ones,
holdup; responses, the requests in rotation; frames in transmission, links off, a held frame that is protected. -/
theorem hyp_PortsTakeByPriority :
    base.forward.txField = none ∧ base.forward.fieldOff = false ∧ base.valve.line1.slot = some .close ∧
      base.valve.line2.slot = some .close ∧ (quietField []).pumpSlot = none ∧ (quietField []).valve.line1.slot = none ∧
      (quietField [fieldFrame 0x18E40200 [], fieldFrame 7 []]).forward.toField.dropWhile (isProtected base.cal)
        = [fieldFrame 7 []] ∧
      isProtected base.cal (fieldFrame 0x18E40200 []) = true ∧
      requestedLine base.reports = some .line1 ∧ requestedLine { base.reports with lastLine := some .line1 } = some .line2 ∧
      requestedLine { base.reports with lines := { line1 := false, line2 := false } } = none ∧
      ({ base with forward := { base.forward with
        fieldOff := true
        txField := some { frame := fieldFrame 0x18E40200 [], forwarded := true, performs := none } } }).forward.txField.map
          (fun (t : Transmission) => t.forwarded && isProtected base.cal t.frame) = some true := by decide
/-- O48: the ports of a parked part and of one in the wake delay, with a CLOSE waiting and a response in the slot. -/
theorem hyp_PortsRest :
    let waking := { base with power := { base.power with wakeDelay := some 50000 } }
    parked.power.on = true ∧ parked.power.parked = true ∧ waking.power.wakeDelay ≠ none ∧
      after .fieldPortTake waking (fun t => t.valve.line1.slot = some .close && t.forward.txField = none) = true ∧
      after .cabPortTake (port parked fun p => { p with responses := [waiting] }) (fun t =>
        t.port.responses = [waiting] && t.forward.txCab = none) = true := by decide
/-- O50: settings of both kinds, their codes with lines that fit and do not fit, persist flags, ranks at the ends. -/
theorem hyp_SettingsClockAndConditions :
    settingOf 5 2 = some (.closeAhead .line2) ∧ settingOf 8 0 = some .toCab ∧ settingOf 8 1 = none ∧
      settingOf 2 0 = none ∧ settingOf 9 0 = none ∧ SettingSel.noFlow .line2 ≠ .noFlow .line1 ∧
      getSetting (putSetting (.noFlow .line1) 600 .defaults) (.noFlow .line2) = 120 ∧ (1 : Nat) ≤ 1 ∧ 1 < 2 ∧ (0 : Nat) < 1 ∧ 8 < 9 ∧ (8 : Nat) ≠ 4 ∧
      ready base = true := by decide
/-- O51 to O53: a part without supply, in holdup, parked, in service; a standing POWER_FAIL; a newest CALIBRATION record
that is applied already, one to be rolled forward, one that is damaged; a write in progress with a release waiting. -/
theorem hyp_Power :
    ({ base with power := { base.power with on := false } }).power.on = false ∧ base.power.on = true ∧
      parked.power.parked = true ∧ base.power.failPin = false ∧
      newestCalibration base.journal = none ∧
      kRecord.newCount = base.cal.eventCount + 1 ∧
      writing.journal.queue ≠ [] ∧ closing.journal.queue ≠ [] ∧ base.journal.queue = [] ∧
      after .powerFail base (fun s => s.power.holdup = true && s.journal.queue = []) = true ∧
      after .powerFail closing (fun s =>
        after .powerFailRelease s (fun t => t.power.releaseWaiting = true && t.journal.queue.length = 1)) = true := by decide
/-- O53: a loss of supply between two stores with no write, with a delivery write and with a CALIBRATION write at the head. -/
theorem hyp_SupplyBetweenStores :
    base.journal.queue = [] ∧ after (.supplyFailure true) base (fun t => t.journal = base.journal && !t.power.on) = true ∧
      after (.supplyFailure true) closing (fun t => t.journal = closing.journal && !t.power.on) = true ∧
      after (.supplyFailure true) writing (fun t => t.journal.queue.length + 1 = writing.journal.queue.length) = true := by
  decide
/-- O52: the newest CALIBRATION record, INTACT or DAMAGED. -/
theorem hyp_NewestCalibration (b : Bool) : newestCalibration (withRecord b).journal = some (record 3 b true) := by
  cases b <;> rfl

/-- O52, R135: a DAMAGED newest CALIBRATION record is discarded at power-on, and JOURNAL_DAMAGE made active. -/
theorem test_damagedNewest :
    let s := checkNewestCalibration (withRecord false)
    s.journalDamage = true ∧ s.journal.records = [] ∧ s.cal = base.cal := by
  have h : checkNewestCalibration (withRecord false) =
      { withRecord false with journal := discardRecord 3 (withRecord false).journal, journalDamage := true } := by
    rw [checkNewestCalibration, hyp_NewestCalibration]
    exact checkRecord_of_damaged _ ((not_intact_iff _).mp hyp_Integrity.2)
  rw [h]
  exact ⟨rfl, rfl, rfl⟩

/-- A part whose newest record is that of a credential or of the lock, one above the stored count. -/
def credentialRecord (item : RecordItem) (new : CalValue) : State :=
  let s := writingItem item new 0x45
  { s with journal := { s.journal with
      queue := []
      reservations := []
      records := [writtenRecord { holder := .calibration, sequence := 9024,
                                  contents := .calibration { kRecord with item := item, newValue := new } } .calibration] } }

/-- O52: the roll-forward of a credential, with the level of its record, of one with no value staged for it, and of the lock. -/
theorem hyp_PowerOnRollsForward :
    after .powerOn (credentialRecord (.credential .fleet) (.lock true true false)) (fun t =>
        t.lock.fleet = some 9 && t.lock.state = .locked && t.lock.staged = none && !t.lock.strict && t.cal.eventCount = 213)
        = true ∧
      after .powerOn (credentialRecord (.credential .fleet) (.lock true true true)) (fun t =>
        t.lock.fleet = some 9 && t.lock.strict) = true ∧
      after .powerOn (credentialRecord (.credential .inspector) (.lock true true true)) (fun t =>
        t.lock.inspector = some 7 && t.lock.fleet = session.lock.fleet && t.lock.strict && t.lock.staged = none) = true ∧
      after .powerOn (credentialRecord .lock (.lock false false false)) (fun t =>
        t.lock.inspector = none && t.lock.state = .opened) = true := by
  refine ⟨?_, ?_, ?_, ?_⟩ <;> (simp only [after, exec, execPowerOn, runPowerOn]; rw [restore_of_intact false rfl rfl rfl]; decide)
/-- O52, R128: a newest record whose bits a failure of the storage medium left, and whose check value agrees, is INTACT and is
rolled forward as they spell; one whose bits name no item changes nothing. -/
theorem hyp_PowerOnReadsBits :
    let stored := fun (f : RawFields) =>
      ({ sequence := 9024, kind := .calibration, released := false, contents := .changed f,
         check := Config.checkValue 9024 .calibration (storedBytes .calibration (.changed f)) } : JournalRecord)
    let part := { session with journal := { session.journal with records := [stored kFields] } }
    after .powerOn part (fun t => t.cal.lines.line1.k = 101 && t.cal.eventCount = 213) = true ∧
      checkRecord (stored lostFields) part = part := by
  constructor
  · simp only [after, exec, execPowerOn, runPowerOn]
    rw [restore_of_intact (c := kRecord) false rfl rfl (by decide)]
    decide
  · rw [checkRecord, (intact_iff _).mpr rfl]
    rfl
/-- O54: both lines IDLE with and without a count; the OK answer in transmission with its request standing. -/
theorem hyp_ParkAndRestart :
    ready base = true ∧ base.lineState .line1 = .idle ∧ base.lineState .line2 = .idle ∧ wakePending base = false ∧
      flowing.lineState .line1 ≠ .idle ∧
      after (.park 1) base (fun s => after .cabPortTake s (fun t =>
        t.port.pendingReset = some .park && t.forward.txCab.map (fun (x : Transmission) => (x.forwarded, x.performs)) = some (false, some .park)
          && t.forward.cabOff = false)) = true ∧
      after (.restart 1) base (fun s => after .cabPortTake s (fun t =>
        t.port.pendingReset = some .restart && t.forward.txCab.map (·.performs) = some (some .restart))) = true := by decide
/-- O54, R115: valve commands and a pump stop that wait in their slots are discarded when RESTART is accepted, and the field
port then has nothing to take; PARK leaves them. -/
theorem test_restartEmptiesSlots :
    let s := { base with pumpSlot := some { reason := .emergencyStop, line := none } }
    (s.valve.get .line1).slot = some .close ∧
      after (.restart 1) s (fun t => t.valve.line1.slot = none && t.valve.line2.slot = none && t.pumpSlot = none &&
        after .fieldPortTake t (fun u => u.forward.txField = none)) = true ∧
      after (.park 1) s (fun t => t.valve = s.valve && t.pumpSlot = s.pumpSlot) = true := by decide
/-- O54: what a response performs: the OK answers to PARK and RESTART alone. -/
theorem hyp_PerformsOf :
    performsOf 0x66 .ok = some .park ∧ performsOf 0x67 .ok = some .restart ∧ performsOf 0x66 .state = none ∧
      performsOf 0x65 .ok = none ∧ performsOf 0x68 .ok = none := by decide
/-- O55 to O59: a flowing state takes a step, here its own metering tick. -/
theorem hyp_StepKeepsLaws :
    (match step { flowing with pending := [.meteringTick .line1 100000] } with
      | .next t => t.pulse = flowing.pulse
      | _ => false) = true := by decide

/-- O55: the flowing state obeys the law of the valves. -/
theorem hyp_StepKeepsValveLaw : ValveLaw flowing := by
  intro l
  cases l <;> decide
/-- O56: the flowing state obeys the law of contexts. -/
theorem hyp_ContextLaw : ContextLaw flowing := by
  refine ⟨by unfold StoreAgrees; decide, fun l => ?_⟩
  cases l <;> decide

/-- O56: the flowing state obeys the law of grants. -/
theorem hyp_StepKeepsGrantLaw : GrantLaw flowing := by
  refine ⟨hyp_ContextLaw, fun c l => ?_⟩
  have hd : (∀ c : CompartmentNo, flowing.compartments[c].granted = if c = 2 then some .line1 else none) ∧
      flowing.ctx .line2 = none ∧ (gasDelivery 212400).compartment = 2 := by decide
  have h1 : flowing.ctx .line1 = some (gasDelivery 212400) := rfl
  rw [hd.1 c]
  cases l <;> simp [h1, hd.2.1, hd.2.2, eq_comm]
/-- O57: the flowing state obeys the law of remainders. -/
theorem hyp_StepKeepsRemainderLaw : RemainderLaw flowing := by
  refine ⟨by unfold StoreAgrees; decide, fun l => ?_⟩
  cases l <;> decide
/-- O58: the flowing state obeys the laws of settings and bounds. -/
theorem hyp_StepKeepsSettingsAndBounds : SettingsLaw flowing ∧ BoundsLaw flowing := by
  simp only [SettingsLaw, Settings.inRange, LineSettings.inRange, BoundsLaw, Counters.fit, PulseInput.fit]
  (repeat' apply And.intro) <;> decide
/-- O59: the flowing state obeys the laws of the journal and of the event count. -/
theorem hyp_StepKeepsJournalAndEventCount : EventCountLaw flowing := by
  have hq : flowing.journal.queue = [] := rfl
  refine ⟨⟨hyp_ContextLaw, by decide, fun l => ?_, by decide, by decide, by decide, by simp [hq]⟩, by simp [hq]⟩
  cases l <;> decide
/-- O59: a part whose INTACT record bears the event count plus 1 obeys the law of the records, and the failure at the front of
its queue leaves a check value that does not agree. -/
theorem hyp_RecordCountLaw :
    let left : StoredContents := ⟨kFields, Config.checkValue 3 .calibration (storedBytes .calibration (.changed kFields)) + 1⟩
    let s : State := { flowing with
      pending := [.storageMediumFailure 3 left]
      journal := { flowing.journal with records := [record 3 true true] } }
    RecordCountLaw s ∧ DamageIsFound s := by
  intro left s
  have hr : s.journal.records = [record 3 true true] := rfl
  have he := hyp_StepKeepsJournalAndEventCount
  obtain ⟨⟨hc, -, hl, h1, h2, h3, h4⟩, hq⟩ := he
  refine ⟨⟨⟨⟨hc, by decide, hl, h1, h2, h3, h4⟩, hq⟩, ?_⟩, ?_⟩
  · intro r hm _ _ c hcal
    rw [hr, List.mem_singleton] at hm
    subst hm
    cases hcal
    decide
  · intro n left' rest h r hm hn
    injection h with h
    injection h with h h'
    subst h h'
    rw [hr, List.mem_singleton] at hm
    subst hm
    exact Nat.succ_ne_self _
/-- O60: where the attempts rise: a release in holdup with no write, one that waited for a write, a standing RESTART. -/
theorem hyp_NumbersNeverFall :
    let spent := fun (s : State) => { s with lock := { s.lock with attempts := 1 } }
    let held := { spent base with power := { base.power with failPin := true, holdup := true } }
    let waits := { spent closing with power := { closing.power with holdup := true, releaseWaiting := true } }
    after .powerFailRelease held (fun t => t.lock.attempts = 5) = true ∧
      after .writeCompletion waits (fun t => t.lock.attempts = 5) = true ∧
      after (.restart 1) (spent base) (fun s => after .cabPortTake s (fun u =>
        after (.transmissionCompletion .cab) u (fun t => t.lock.attempts = 5))) = true := by decide
/-- O33: the port is ready; a line without a context and one with it; numbers at the edges of the lines. -/
theorem hyp_LineReadsAnswerValues : ready base = true ∧ base.ctx .line1 = none ∧ (flowing.ctx .line1).isSome = true ∧ (0 : Nat) ≠ 1 ∧ (0 : Nat) ≠ 2 ∧ (3 : Nat) ≠ 1 ∧ (3 : Nat) ≠ 2 := by
  decide

end Sys2Proof.Tests
end

namespace Sys2Proof.Machine

/-! ## Settings and bounds along every step (R57, R88, R153, R170, R173, R177, R180, R182) -/

/-! ### The law, gathered by the parts of the state it speaks of -/

/-- The places of the response slot kept for the command in flight (R180). -/
def CommandPort.kept (p : CommandPort) : Nat := if p.inFlight.isSome then 1 else 0

/-- The command port's share: its address, and the response slot with its kept place (R177, R180). -/
def CommandPort.inBounds (p : CommandPort) : Prop := p.address ≤ 63 ∧ p.responses.length + p.kept ≤ 4

/-- The forwarding block's share: both FIFOs and all counters (R170, R173). -/
def Forwarding.inBounds (w : Forwarding) : Prop :=
  w.toField.length ≤ 32 ∧ w.toCab.length ≤ 32 ∧ w.countToField.fit ∧ w.countToCab.fit

/-- `SettingsLaw` and `BoundsLaw` together, one field for each part of the state (`inBounds_iff`). -/
structure InBounds (s : State) : Prop where
  settings : s.settings.inRange
  stored : s.storedSettings.inRange
  port : s.port.inBounds
  forward : s.forward.inBounds
  orders : s.orders.length ≤ 16
  attempts : s.lock.attempts ≤ 5
  pulse : ∀ l, (s.pulse.get l).fit
  probe : ∀ l, (s.line.get l).probeErrors ≤ 65535

theorem inBounds_iff (s : State) : InBounds s ↔ SettingsLaw s ∧ BoundsLaw s := by
  constructor
  · intro h
    exact ⟨⟨h.settings, h.stored, h.port.1⟩, h.forward.1, h.forward.2.1, h.port.2, h.orders, h.attempts,
      h.forward.2.2.1, h.forward.2.2.2, h.pulse .line1, h.pulse .line2, h.probe .line1, h.probe .line2⟩
  · rintro ⟨⟨hset, hstored, haddr⟩, hfield, hcab, hresp, horders, hatt, hcf, hcc, hp1, hp2, he1, he2⟩
    refine ⟨hset, hstored, ⟨haddr, hresp⟩, ⟨hfield, hcab, hcf, hcc⟩, horders, hatt, ?_, ?_⟩ <;> (intro l; cases l)
    exacts [hp1, hp2, he1, he2]

/-! ### Counters, pulse inputs and settings -/

theorem sat16_le (n : Nat) : sat16 n ≤ 65535 := Nat.min_le_left _ _

theorem satAdd_le (top a b : Nat) : satAdd top a b ≤ top := Nat.min_le_left _ _

theorem Counters.fit_zero : Counters.zero.fit := by simp [Counters.fit, Counters.zero]

section
variable {c : Counters}

theorem Counters.fit_addForwarded (h : c.fit) : (addForwarded c).fit := ⟨sat16_le _, h.2⟩

theorem Counters.fit_addFullDrop (h : c.fit) : (addFullDrop c).fit := ⟨h.1, sat16_le _, h.2.2⟩

theorem Counters.fit_addTableDrop (h : c.fit) : (addTableDrop c).fit := ⟨h.1, h.2.1, sat16_le _, h.2.2.2⟩

theorem Counters.fit_addGatedDrop (h : c.fit) : (addGatedDrop c).fit := ⟨h.1, h.2.1, h.2.2.1, sat16_le _, h.2.2.2.2⟩

theorem Counters.fit_addProtectedDrops (h : c.fit) (n : Nat) : (addProtectedDrops n c).fit :=
  ⟨h.1, h.2.1, h.2.2.1, h.2.2.2.1, satAdd_le _ _ _⟩

end

theorem flowOfPeriod_le (k period : Nat) : flowOfPeriod k period ≤ 65535 := by
  unfold flowOfPeriod
  split
  · exact Nat.zero_le _
  · exact Nat.min_le_left _ _

theorem PulseInput.fit_cleared (at_ : Micros) : (PulseInput.cleared at_).fit :=
  ⟨Nat.zero_le _, Nat.zero_le _, Nat.zero_le _, Nat.zero_le _⟩

section
variable {p : PulseInput}

theorem PulseInput.fit_settleOverflow (h : p.fit) (awake : Micros) : (settleOverflow awake p).fit := by
  unfold settleOverflow
  split
  · exact ⟨h.1, h.2.1, h.2.2.1, Nat.zero_le _⟩
  · exact h

theorem PulseInput.fit_addIntegrityError (h : p.fit) : (addIntegrityError p).fit := ⟨h.1, h.2.1, sat16_le _, h.2.2.2⟩

theorem PulseInput.fit_checkAlternation (h : p.fit) (c : Channel) : (checkAlternation c p).fit := by
  unfold checkAlternation
  split
  · exact fit_addIntegrityError h
  · exact h

theorem PulseInput.fit_countPulse (h : p.fit) (bHigh : Bool) : (countPulse bHigh p).fit := by
  unfold countPulse
  split
  · exact ⟨h.1, sat16_le _, h.2.2⟩
  · exact ⟨sat16_le _, h.2⟩

theorem PulseInput.fit_forwardTiming (h : p.fit) (awake : Micros) (k : Nat) : (forwardTiming awake k p).fit := by
  refine ⟨h.1, h.2.1, h.2.2.1, ?_⟩
  simp only [forwardTiming]
  split
  · exact flowOfPeriod_le _ _
  · exact h.2.2.2

theorem PulseInput.fit_timePulse (h : p.fit) (parked bHigh : Bool) (awake : Micros) (k : Nat) :
    (timePulse parked bHigh awake k p).fit := by
  unfold timePulse
  split
  · exact h
  · split
    · exact ⟨h.1, h.2.1, h.2.2.1, Nat.zero_le _⟩
    · exact fit_forwardTiming h awake k

theorem PulseInput.fit_edgeA (h : p.fit) (parked bHigh : Bool) (now awake : Micros) (k : Nat) :
    (edgeA parked bHigh now awake k p).fit := by
  unfold edgeA
  split
  · exact fit_timePulse (fit_countPulse (fit_checkAlternation (p := { p with refA := some now }) h .a) bHigh) ..
  · exact fit_addIntegrityError h

theorem PulseInput.fit_edgeB (h : p.fit) (now : Micros) : (edgeB now p).fit := by
  unfold edgeB
  split
  · exact fit_checkAlternation (p := { p with refB := some now }) h .b
  · exact fit_addIntegrityError h

theorem PulseInput.fit_takeCounts (h : p.fit) : (takeCounts p).fit :=
  ⟨Nat.zero_le _, Nat.zero_le _, Nat.zero_le _, h.2.2.2⟩

theorem PulseInput.fit_wakePulse (h : p.fit) (at_ : Micros) : (wakePulse at_ p).fit :=
  ⟨h.1, h.2.1, h.2.2.1, Nat.zero_le _⟩

end

theorem Settings.inRange_defaults : Settings.defaults.inRange := by
  simp [Settings.inRange, LineSettings.inRange, Settings.defaults, LineSettings.defaults]

theorem clampInt_bounds {lo hi : Int} (h : lo ≤ hi) (x : Int) : lo ≤ clampInt lo hi x ∧ clampInt lo hi x ≤ hi := by
  unfold clampInt
  omega

section
variable {x : Settings}

/-- The settings of a line, in range. -/
theorem Settings.inRange_line (h : x.inRange) (l : LineId) : (x.lines.get l).inRange := by
  cases l
  · exact h.2.2.2.1
  · exact h.2.2.2.2

/-- Settings with one line's replaced by ones in range. -/
theorem Settings.inRange_setLine (h : x.inRange) (l : LineId) {y : LineSettings} (hy : y.inRange) :
    ({ x with lines := x.lines.set l y } : Settings).inRange := by
  obtain ⟨haddr, hrep, hair, h1, h2⟩ := h
  cases l
  · exact ⟨haddr, hrep, hair, hy, h2⟩
  · exact ⟨haddr, hrep, hair, h1, hy⟩

/-- A clamped value keeps every setting in its range (R182). -/
theorem Settings.inRange_putSetting (h : x.inRange) (sel : SettingSel) (v : Int) :
    (putSetting sel (clampSetting sel v) x).inRange := by
  obtain ⟨haddr, hrep, hair, h1, h2⟩ := id h
  have hc : (settingRange sel).1 ≤ (settingRange sel).2 := by cases sel <;> simp [settingRange]
  have hv : (settingRange sel).1 ≤ clampSetting sel v ∧ clampSetting sel v ≤ (settingRange sel).2 :=
    clampInt_bounds hc v
  generalize clampSetting sel v = w at hv
  cases sel with
  | address =>
    simp only [settingRange] at hv
    exact ⟨show w.toNat ≤ 63 by omega, hrep, hair, h1, h2⟩
  | reportInterval =>
    simp only [settingRange] at hv
    exact ⟨haddr, show 100 ≤ w.toNat ∧ w.toNat ≤ 5000 by omega, hair, h1, h2⟩
  | noFlow l =>
    simp only [settingRange] at hv
    obtain ⟨-, hsoft, hslow, hclose⟩ := inRange_line h l
    exact inRange_setLine h l ⟨show 10 ≤ w.toNat ∧ w.toNat ≤ 600 by omega, hsoft, hslow, hclose⟩
  | softStart l =>
    obtain ⟨hflow, -, hslow, hclose⟩ := inRange_line h l
    exact inRange_setLine h l ⟨hflow, hv, hslow, hclose⟩
  | slowdown l =>
    obtain ⟨hflow, hsoft, -, hclose⟩ := inRange_line h l
    exact inRange_setLine h l ⟨hflow, hsoft, hv, hclose⟩
  | closeAhead l =>
    obtain ⟨hflow, hsoft, hslow, -⟩ := inRange_line h l
    exact inRange_setLine h l ⟨hflow, hsoft, hslow, hv⟩
  | airHold =>
    simp only [settingRange] at hv
    exact ⟨haddr, hrep, show 10 ≤ w.toNat ∧ w.toNat ≤ 600 by omega, h1, h2⟩
  | toField => exact h
  | toCab => exact h

/-- An adapted close-ahead stays in its range (R88). -/
theorem Settings.inRange_setCloseAhead (h : x.inRange) (l : LineId) (d : Delivery) (present : Volume) :
    (setCloseAhead l (adaptedCloseAhead d present) x).inRange := by
  obtain ⟨hflow, hsoft, hslow, -⟩ := inRange_line h l
  exact inRange_setLine h l ⟨hflow, hsoft, hslow, clampInt_bounds (by decide) _⟩

end

/-! ### Updates of one part of the state -/

/-- Both branches in bounds. -/
theorem ite_inBounds {c : Prop} [Decidable c] {a b : State} (ha : InBounds a) (hb : InBounds b) :
    InBounds (if c then a else b) := by
  split
  · exact ha
  · exact hb

section
variable {s : State} (l : LineId)

theorem modLine_inBounds (h : InBounds s) {f : Line → Line} (hf : (f (s.line.get l)).probeErrors ≤ 65535) :
    InBounds (s.modLine l f) := by
  refine { h with probe := fun m => ?_ }
  rw [State.modLine_line, PerLine.get_set]
  split
  · exact hf
  · exact h.probe m

theorem modKept_inBounds (h : InBounds s) (f : LineCopy → LineCopy) : InBounds (s.modKept l f) :=
  modLine_inBounds l h (h.probe l)

theorem modCtx_inBounds (h : InBounds s) (f : Delivery → Delivery) : InBounds (s.modCtx l f) := modKept_inBounds l h _

theorem modPulse_inBounds (h : InBounds s) {f : PulseInput → PulseInput} (hf : (f (s.pulse.get l)).fit) :
    InBounds (s.modPulse l f) := by
  refine { h with pulse := fun m => ?_ }
  rw [State.modPulse_pulse, PerLine.get_set]
  split
  · exact hf
  · exact h.pulse m

theorem modValve_inBounds (h : InBounds s) (f : ValveRecord → ValveRecord) : InBounds (s.modValve l f) := { h with }

theorem modCompartment_inBounds (h : InBounds s) (c : CompartmentNo) (f : Compartment → Compartment) :
    InBounds (s.modCompartment c f) := { h with }

theorem modCounters_inBounds (h : InBounds s) (d : Direction) {f : Counters → Counters}
    (hf : ∀ c : Counters, c.fit → (f c).fit) : InBounds (s.modCounters d f) := by
  obtain ⟨hfield, hcab, hcf, hcc⟩ := h.forward
  cases d
  · exact { h with forward := ⟨hfield, hcab, hf _ hcf, hcc⟩ }
  · exact { h with forward := ⟨hfield, hcab, hcf, hf _ hcc⟩ }

theorem advanceTo_inBounds (h : InBounds s) (t : Micros) : InBounds (advanceTo t s) := { h with }

theorem settle_inBounds (h : InBounds s) (before : State) : InBounds (settle before s) := by
  unfold settle
  dsimp only
  split
  · exact { h with }
  · exact { h with }

/-! ### Changes of line state and valve commands -/

theorem issueStage_inBounds (h : InBounds s) (st : Stage) : InBounds (issueStage l st s) := modValve_inBounds l h _

theorem resendStage_inBounds (h : InBounds s) (n : Nat) : InBounds (resendStage l n s) := modValve_inBounds l h _

theorem raiseLineStatus_inBounds (h : InBounds s) : InBounds (raiseLineStatus l s) := { h with }

theorem placePumpStop_inBounds (h : InBounds s) (r : PumpReason) (m : Option LineId) :
    InBounds (placePumpStop r m s) := { h with }

theorem askStage_inBounds (h : InBounds s) : InBounds (askStage l s) :=
  ite_inBounds h (issueStage_inBounds l h _)

theorem enterState_inBounds (h : InBounds s) (st : LineState) : InBounds (enterState l st s) :=
  askStage_inBounds l (raiseLineStatus_inBounds l (modLine_inBounds l h (h.probe l)))

theorem enterStopping_inBounds (h : InBounds s) (causes : List StopCause) : InBounds (enterStopping l causes s) :=
  have hctx := modCtx_inBounds l h _
  enterState_inBounds l (modLine_inBounds l hctx (hctx.probe l)) _

theorem furtherCauses_inBounds (h : InBounds s) (causes : List StopCause) : InBounds (furtherCauses l causes s) :=
  modCtx_inBounds l h _

theorem enterSuspended_inBounds (h : InBounds s) (causes : List StopCause) : InBounds (enterSuspended l causes s) :=
  enterState_inBounds l (modCtx_inBounds l h _) _

theorem stopOn_inBounds (h : InBounds s) (c : StopCause) : InBounds (stopOn l c s) := by
  rw [stopOn_eq]
  split
  · exact enterStopping_inBounds l h _
  · split
    · exact furtherCauses_inBounds l h _
    · exact h

theorem enterAirHold_inBounds (h : InBounds s) (back : ResumeState) : InBounds (enterAirHold l back s) :=
  have hctx := modCtx_inBounds l h _
  enterState_inBounds l (modLine_inBounds l hctx (hctx.probe l)) _

theorem adaptCloseAhead_inBounds (h : InBounds s) : InBounds (adaptCloseAhead l s) := by
  unfold adaptCloseAhead
  split
  · exact h
  · split
    · exact { h with settings := Settings.inRange_setCloseAhead h.settings l _ _
                     stored := Settings.inRange_setCloseAhead h.stored l _ _ }
    · exact h

theorem completeStopping_inBounds (h : InBounds s) : InBounds (completeStopping l s) := by
  unfold completeStopping
  split
  · split
    · exact h
    · have ha := adaptCloseAhead_inBounds l h
      exact enterState_inBounds l (modLine_inBounds l ha (ha.probe l)) _
  · exact h

/-! ### The metering tick -/

theorem countErrors_inBounds (h : InBounds s) (n : Nat) : InBounds (countErrors l n s) := by
  have hk := modKept_inBounds l h fun k => { k with lifetimeErrors := addErrors k.lifetimeErrors n }
  unfold countErrors
  dsimp only
  split
  · exact hk
  · exact modCtx_inBounds l hk _

theorem route_inBounds (h : InBounds s) (n : Int) (r : Nat) (c : Converted) : InBounds (route l n r c s) := by
  unfold route
  split
  · unfold routeToDelivery
    split
    · exact h
    · exact modCompartment_inBounds (modCtx_inBounds l h _) _ _
  · exact modKept_inBounds l h _

theorem thresholdTest_inBounds (h : InBounds s) (d : Delivery) : InBounds (thresholdTest l d s) := by
  unfold thresholdTest
  split
  · split
    · exact enterState_inBounds l h _
    · split
      · exact raiseLineStatus_inBounds l (issueStage_inBounds l h _)
      · exact h
  · exact h

theorem noFlowTest_inBounds (h : InBounds s) : InBounds (noFlowTest l s) := by
  unfold noFlowTest
  split
  · split
    · exact modLine_inBounds l h (h.probe l)
    · exact h
  · exact modLine_inBounds l h (h.probe l)

theorem flowingTest_inBounds (h : InBounds s) (d : Delivery) : InBounds (flowingTest l d s) :=
  ite_inBounds (noFlowTest_inBounds l (thresholdTest_inBounds l h d)) (enterStopping_inBounds l h _)

theorem faultTest_inBounds (h : InBounds s) (faults : List StopCause) : InBounds (faultTest l faults s) := by
  unfold faultTest
  split
  · exact h
  · split
    · exact enterStopping_inBounds l h _
    · exact furtherCauses_inBounds l h _
    · exact enterSuspended_inBounds l h _
    · exact enterSuspended_inBounds l h _
    · exact enterSuspended_inBounds l h _
    · exact modCtx_inBounds l h _
    · exact h

theorem evaluate_inBounds (h : InBounds s) : InBounds (evaluate l s) := by
  unfold evaluate
  split
  · exact h
  · apply completeStopping_inBounds
    split
    · exact flowingTest_inBounds l h _
    · exact faultTest_inBounds l h _

theorem tick_inBounds (h : InBounds s) : InBounds (tick l s) :=
  evaluate_inBounds l (route_inBounds l (modKept_inBounds l
    (countErrors_inBounds l (modPulse_inBounds l h (PulseInput.fit_takeCounts (h.pulse l))) _) _) _ _ _)

/-! ### Events of the time base -/

theorem wakeActions_inBounds (h : InBounds s) : InBounds (wakeActions s) :=
  { h with
    pulse := fun
      | .line1 => PulseInput.fit_wakePulse (h.pulse .line1) _
      | .line2 => PulseInput.fit_wakePulse (h.pulse .line2) _
    probe := fun
      | .line1 => h.probe .line1
      | .line2 => h.probe .line2 }

theorem wakeEvent_inBounds (h : InBounds s) : InBounds (wakeEvent s) := { wakeActions_inBounds h with }

theorem takeEdge_inBounds (h : InBounds s) (e : PulserEdge) : InBounds (takeEdge l e s) := by
  have ho := modPulse_inBounds l h (PulseInput.fit_settleOverflow (h.pulse l) s.awake)
  unfold takeEdge
  dsimp only
  split
  · exact ho
  · exact modPulse_inBounds l ho (PulseInput.fit_edgeB (ho.pulse l) _)
  · have ha := modPulse_inBounds l ho (PulseInput.fit_edgeA (ho.pulse l) s.power.parked (s.levels.get l).b s.now s.awake
      (s.cal.lines.get l).k)
    split
    · exact wakeEvent_inBounds ha
    · exact ha

theorem takeOverflow_inBounds (h : InBounds s) : InBounds (takeOverflow l s) :=
  ite_inBounds h (modPulse_inBounds l h (PulseInput.fit_settleOverflow (h.pulse l) _))

theorem takeTick_inBounds (h : InBounds s) : InBounds (takeTick l s) :=
  ite_inBounds (tick_inBounds l (modLine_inBounds l h (h.probe l))) h

theorem takeNoFlowExpiry_inBounds (h : InBounds s) : InBounds (takeNoFlowExpiry l s) :=
  ite_inBounds (enterStopping_inBounds l h _) h

theorem takeReportExpiry_inBounds (h : InBounds s) : InBounds (takeReportExpiry l s) :=
  ite_inBounds (raiseLineStatus_inBounds l (modLine_inBounds l h (h.probe l))) h

theorem leaveAirHold_inBounds (h : InBounds s) : InBounds (leaveAirHold l s) := by
  unfold leaveAirHold
  split
  · exact enterState_inBounds l h _
  · exact h

theorem takeAirClearExpiry_inBounds (h : InBounds s) : InBounds (takeAirClearExpiry l s) :=
  ite_inBounds (leaveAirHold_inBounds l (modLine_inBounds l h (h.probe l))) h

theorem takeAirHoldExpiry_inBounds (h : InBounds s) : InBounds (takeAirHoldExpiry l s) :=
  ite_inBounds (enterStopping_inBounds l h _) h

theorem takeAirSilenceExpiry_inBounds (h : InBounds s) : InBounds (takeAirSilenceExpiry l s) := by
  unfold takeAirSilenceExpiry
  split
  · split
    · exact modLine_inBounds l h (h.probe l)
    · exact modLine_inBounds l h (h.probe l)
  · exact h

theorem takeRelockExpiry_inBounds (h : InBounds s) : InBounds (takeRelockExpiry s) :=
  ite_inBounds ({ h with }) h

theorem takeWakeDelayEnd_inBounds (h : InBounds s) : InBounds (takeWakeDelayEnd s) :=
  ite_inBounds ({ h with }) h

/-! ### Valve driver -/

theorem reportCloseFailure_inBounds (h : InBounds s) : InBounds (reportCloseFailure l s) := by
  unfold reportCloseFailure
  split
  · exact h
  · exact h
  · exact h
  · exact modCtx_inBounds l h _
  · exact enterSuspended_inBounds l h _

theorem escalate_inBounds (h : InBounds s) : InBounds (escalate l s) :=
  reportCloseFailure_inBounds l (modValve_inBounds l (placePumpStop_inBounds h _ _) _)

theorem failOpen_inBounds (h : InBounds s) : InBounds (failOpen l s) := by
  have hv := modValve_inBounds l h fun v => { v with confirmTimer := none }
  unfold failOpen reportOpenFailure
  split
  · exact enterSuspended_inBounds l hv _
  · exact hv

theorem confirmStage_inBounds (h : InBounds s) : InBounds (confirmStage l s) :=
  completeStopping_inBounds l (modValve_inBounds l h _)

theorem takeValveStatus_inBounds (h : InBounds s) (p : Position) : InBounds (takeValveStatus l p s) := by
  have hv := modValve_inBounds l h fun v => { v with reported := some p }
  unfold takeValveStatus
  dsimp only
  split
  · split
    · split
      · exact hv
      · exact escalate_inBounds l hv
    · split
      · exact confirmStage_inBounds l hv
      · split
        · exact escalate_inBounds l hv
        · exact hv
  · split
    · exact failOpen_inBounds l hv
    · split
      · split
        · exact hv
        · exact resendStage_inBounds l hv _
      · split
        · exact confirmStage_inBounds l hv
        · exact hv

theorem takeValveFrame_inBounds (h : InBounds s) (data : List Byte) : InBounds (takeValveFrame l data s) := by
  unfold takeValveFrame
  split
  · exact h
  · split
    · exact h
    · exact takeValveStatus_inBounds l h _

theorem windowEnds_inBounds (h : InBounds s) : InBounds (windowEnds l s) := by
  unfold windowEnds
  dsimp only
  split
  · split
    · exact resendStage_inBounds l h _
    · exact escalate_inBounds l h
  · split
    · exact resendStage_inBounds l h _
    · exact failOpen_inBounds l h

theorem takeConfirmExpiry_inBounds (h : InBounds s) : InBounds (takeConfirmExpiry l s) :=
  ite_inBounds (windowEnds_inBounds l h) h

theorem takeRetryExpiry_inBounds (h : InBounds s) : InBounds (takeRetryExpiry l s) :=
  ite_inBounds (modValve_inBounds l h _) h

theorem closeBothValves_inBounds (h : InBounds s) (r : PumpReason) : InBounds (closeBothValves r s) :=
  placePumpStop_inBounds (issueStage_inBounds _ (issueStage_inBounds _ h _) _) _ _

/-! ### Field frames -/

theorem takeProbeFrame_inBounds (h : InBounds s) (data : List Byte) : InBounds (takeProbeFrame l data s) := by
  unfold takeProbeFrame
  split
  · exact modLine_inBounds l h (h.probe l)
  · exact modLine_inBounds l h (sat16_le _)

theorem hearAir_inBounds (h : InBounds s) : InBounds (hearAir l s) := modLine_inBounds l h (h.probe l)

theorem takeAirPresent_inBounds (h : InBounds s) : InBounds (takeAirPresent l s) := by
  have hh := hearAir_inBounds l h
  have hm := modLine_inBounds l hh (f := fun ln => { ln with airFlag := true, airClear := none }) (hh.probe l)
  have hq := fun (c : Prop) [Decidable c] => ite_inBounds (c := c)
    (modCtx_inBounds l hm fun d => { d with flags := { d.flags with airSeen := true } }) hm
  unfold takeAirPresent
  dsimp only
  split
  · exact enterAirHold_inBounds l (hq _) _
  · exact enterAirHold_inBounds l (hq _) _
  · exact modLine_inBounds l (hq _) ((hq _).probe l)
  · exact hq _

theorem takeAirClear_inBounds (h : InBounds s) : InBounds (takeAirClear l s) := by
  have hh := hearAir_inBounds l h
  unfold takeAirClear
  exact modLine_inBounds l hh (hh.probe l)

theorem takeAirFrame_inBounds (h : InBounds s) (data : List Byte) : InBounds (takeAirFrame l data s) := by
  unfold takeAirFrame
  split
  · exact h
  · exact ite_inBounds (takeAirPresent_inBounds l h) (ite_inBounds (takeAirClear_inBounds l h) h)

theorem consume_inBounds (h : InBounds s) (f : Frame) : InBounds (consume f s) := by
  unfold consume
  split
  · exact h
  · exact takeProbeFrame_inBounds _ h _
  · exact takeAirFrame_inBounds _ h _
  · exact takeValveFrame_inBounds _ h _

end

section
variable {s : State}

/-! ### Forwarding and the transmit ports -/

theorem joinFifo_inBounds (h : InBounds s) (d : Direction) (f : Frame) : InBounds (joinFifo d f s) := by
  obtain ⟨hfield, hcab, hcf, hcc⟩ := h.forward
  unfold joinFifo
  split
  · exact modCounters_inBounds h d fun _ => Counters.fit_addFullDrop
  · next hroom =>
    cases d <;> simp only [fifo, fifoRoom] at hroom
    · exact { h with forward := ⟨by simp; omega, hcab, hcf, hcc⟩ }
    · exact { h with forward := ⟨hfield, by simp; omega, hcf, hcc⟩ }

theorem forwardFrame_inBounds (h : InBounds s) (d : Direction) (f : Frame) : InBounds (forwardFrame d f s) := by
  unfold forwardFrame
  split
  · exact joinFifo_inBounds h d f
  · exact modCounters_inBounds h d fun _ => Counters.fit_addTableDrop
  · exact modCounters_inBounds h d fun _ => Counters.fit_addGatedDrop

/-- Protected drops, counted in either direction. -/
theorem protectedDrops_inBounds (h : InBounds s) (d : Direction) (n : Nat) :
    InBounds (s.modCounters d (addProtectedDrops n)) :=
  modCounters_inBounds h d fun _ hc => Counters.fit_addProtectedDrops hc n

theorem takeFieldFrame_inBounds (h : InBounds s) (f : Frame) : InBounds (takeFieldFrame f s) :=
  have hc := consume_inBounds h f
  ite_inBounds h <| ite_inBounds (ite_inBounds h (protectedDrops_inBounds h _ _))
    (ite_inBounds hc (forwardFrame_inBounds hc _ _))

theorem sendField_inBounds (h : InBounds s) (f : Frame) (fwd : Bool) : InBounds (sendField f fwd s) := { h with }

theorem sendCab_inBounds (h : InBounds s) (f : Frame) (fwd : Bool) (k : Option ResetKind) :
    InBounds (sendCab f fwd k s) := { h with }

/-- The cab-to-field FIFO replaced by one of its tails. -/
theorem toField_inBounds (h : InBounds s) {q : List Frame} (hq : q.length ≤ s.forward.toField.length) :
    InBounds { s with forward := { s.forward with toField := q } } :=
  { h with forward := ⟨hq.trans h.forward.1, h.forward.2⟩ }

theorem sendForwarded_inBounds (h : InBounds s) : InBounds (sendForwarded s) := by
  unfold sendForwarded
  refine ite_inBounds h ?_
  have hle := (List.dropWhile_suffix (isProtected s.cal) (l := s.forward.toField)).length_le
  have hc := protectedDrops_inBounds h .cabToField
    (s.forward.toField.length - (s.forward.toField.dropWhile (isProtected s.cal)).length)
  dsimp only
  split
  · exact toField_inBounds hc (Nat.zero_le _)
  · next heq =>
    rw [heq, List.length_cons] at hle
    exact sendField_inBounds (toField_inBounds hc (Nat.le_of_succ_le hle)) _ _

theorem takeFieldPort_inBounds (h : InBounds s) : InBounds (takeFieldPort s) := by
  unfold takeFieldPort
  refine ite_inBounds h ?_
  split
  · exact sendField_inBounds (modValve_inBounds _ h _) _ _
  · exact sendField_inBounds (modValve_inBounds _ h _) _ _
  · exact { h with }
  · exact sendForwarded_inBounds h

theorem sendToCab_inBounds (h : InBounds s) : InBounds (sendToCab s) := by
  obtain ⟨hfield, hcab, hfit⟩ := h.forward
  unfold sendToCab
  split
  · next heq =>
    rw [heq, List.length_cons] at hcab
    exact { h with forward := ⟨hfield, Nat.le_of_succ_le hcab, hfit⟩ }
  · exact h

theorem takeCabPort_inBounds (h : InBounds s) : InBounds (takeCabPort s) := by
  obtain ⟨haddr, hresp⟩ := h.port
  unfold takeCabPort
  refine ite_inBounds h ?_
  split
  · next rest heq =>
    rw [heq, List.length_cons] at hresp
    exact { h with port := ⟨haddr, show rest.length + s.port.kept ≤ 4 by omega⟩ }
  · refine ite_inBounds { h with } ?_
    split
    · exact { h with }
    · exact sendToCab_inBounds h

theorem recoverBusOff_inBounds (h : InBounds s) (k : Link) : InBounds (recoverBusOff k s) := by
  cases k
  · exact { h with }
  · exact ite_inBounds (protectedDrops_inBounds
      (s := { s with forward := { s.forward with fieldOff := false, txField := none } }) { h with } _ _) { h with }

theorem enterBusOff_inBounds (h : InBounds s) (k : Link) : InBounds (enterBusOff k s) := by
  cases k <;> exact { h with }

/-! ### What the owning blocks leave -/

/-- An owner's decision on a command: it leaves the bounds, the response slot and the command in flight, and answers with
two responses only where two places are free (R180). -/
structure DecidedInBounds (s : State) (r : State × Answer) : Prop where
  inBounds : InBounds r.1
  responses : r.1.port.responses = s.port.responses
  inFlight : r.1.port.inFlight = s.port.inFlight
  room : ∀ x y, r.2 = .record x y → 2 ≤ freePlaces s

/-- One response, or none yet, by an owner that leaves the port. -/
theorem decided_of_port {r : State × Answer} (ht : InBounds r.1) (hp : r.1.port = s.port)
    (ha : ∀ x y, r.2 ≠ .record x y := by nofun) : DecidedInBounds s r :=
  ⟨ht, by rw [hp], by rw [hp], fun x y e => absurd e (ha x y)⟩

/-- A refusal, or a read: the state stays. -/
theorem decided_same (h : InBounds s) {st : Status} {data : List Byte} : DecidedInBounds s (s, .reply st data) :=
  decided_of_port h rfl

theorem ite_decided {c : Prop} [Decidable c] {a b : State × Answer} (ha : DecidedInBounds s a)
    (hb : DecidedInBounds s b) : DecidedInBounds s (if c then a else b) := by
  split
  · exact ha
  · exact hb

theorem onLine_decided (h : InBounds s) (n : Nat) {f : LineId → State × Answer} (hf : ∀ l, DecidedInBounds s (f l)) :
    DecidedInBounds s (onLine n s f) := by
  unfold onLine
  split
  · exact decided_same h
  · exact hf _

/-! ### Line commands -/

theorem journal_inBounds (h : InBounds s) (j : Journal) : InBounds { s with journal := j } := { h with }

theorem store_inBounds (h : InBounds s) (k : PerLine LineCopy) : InBounds { s with store := k } := { h with }

/-- A list of orders no longer than the one held. -/
theorem orders_inBounds (h : InBounds s) {os : List Order} (ho : os.length ≤ s.orders.length) :
    InBounds { s with orders := os } := { h with orders := ho.trans h.orders }

theorem bindOrder_length (n : Nat) (b : Option LineId) (os : List Order) : (bindOrder n b os).length = os.length :=
  List.length_map _

theorem openDelivery_inBounds (h : InBounds s) (l : LineId) (d : Delivery) : InBounds (openDelivery l d s) := by
  unfold openDelivery
  exact enterState_inBounds l (journal_inBounds (modCompartment_inBounds (modKept_inBounds l h _) _ _) _) _

theorem openDelivery_port (l : LineId) (d : Delivery) (s : State) : (openDelivery l d s).port = s.port := by
  simp [openDelivery]

theorem armLine_decided (h : InBounds s) (l : LineId) (order c : Nat) : DecidedInBounds s (armLine l order c s) := by
  unfold armLine
  refine ite_decided (decided_same h) (ite_decided (decided_same h) ?_)
  split
  · exact decided_same h
  · refine ite_decided (decided_same h) (ite_decided (decided_same h) ?_)
    split
    · exact decided_same h
    · refine ite_decided (decided_same h) (ite_decided (decided_same h) ?_)
      split
      · exact decided_same h
      · exact decided_of_port (openDelivery_inBounds (orders_inBounds h (bindOrder_length _ _ _).le) _ _)
          (openDelivery_port _ _ _)

theorem armFlushLine_decided (h : InBounds s) (l : LineId) (c : Nat) : DecidedInBounds s (armFlushLine l c s) := by
  unfold armFlushLine
  refine ite_decided (decided_same h) (ite_decided (decided_same h) ?_)
  split
  · exact decided_same h
  · split
    · exact decided_same h
    · refine ite_decided (decided_same h) ?_
      split
      · exact decided_same h
      · exact decided_of_port (openDelivery_inBounds h _ _) (openDelivery_port _ _ _)

theorem undoArm_inBounds (h : InBounds s) (l : LineId) (d : Delivery) : InBounds (undoArm l d s) := by
  have hg : InBounds (releaseGrant d s) := modCompartment_inBounds h _ _
  unfold undoArm
  dsimp only
  split
  · exact enterState_inBounds l (modKept_inBounds l (journal_inBounds hg _) _) _
  · have ho := orders_inBounds hg (bindOrder_length ‹_› none _).le
    exact enterState_inBounds l (modKept_inBounds l (journal_inBounds ho _) _) _

theorem undoArm_port (l : LineId) (d : Delivery) (s : State) : (undoArm l d s).port = s.port := by
  unfold undoArm
  dsimp only
  split <;> simp [releaseGrant]

theorem ownerDisarm_decided (h : InBounds s) (n : Nat) : DecidedInBounds s (ownerDisarm n s) :=
  onLine_decided h n fun l => by
    split
    · exact decided_of_port (undoArm_inBounds h _ _) (undoArm_port _ _ _)
    · exact decided_same h

theorem beginFlow_inBounds (h : InBounds s) (l : LineId) (r : ResumeState) : InBounds (beginFlow l r s) :=
  ite_inBounds (enterAirHold_inBounds l h r) (enterState_inBounds l h _)

theorem beginFlow_port (l : LineId) (r : ResumeState) (s : State) : (beginFlow l r s).port = s.port := by
  unfold beginFlow
  split <;> simp

theorem ownerStart_decided (h : InBounds s) (n : Nat) : DecidedInBounds s (ownerStart n s) :=
  onLine_decided h n fun l => by
    split
    · unfold startLine
      split
      · exact decided_same h
      · exact decided_of_port (beginFlow_inBounds (modCtx_inBounds l h _) _ _) (by simp [beginFlow_port])
    · exact decided_same h

theorem ownerResume_decided (h : InBounds s) (n : Nat) : DecidedInBounds s (ownerResume n s) :=
  onLine_decided h n fun l => by
    split
    · exact decided_of_port (enterState_inBounds l h _) (by simp)
    · unfold resumePaused
      split
      · exact decided_same h
      · exact ite_decided (decided_same h)
          (decided_of_port (beginFlow_inBounds (modCtx_inBounds l h _) _ _) (by simp [beginFlow_port]))
    · exact decided_same h

/-- PAUSE and STOP of a line, where they stop it. -/
theorem stopOn_decided (h : InBounds s) (l : LineId) (c : StopCause) :
    DecidedInBounds s (stopOn l c s, plain .ok) := decided_of_port (stopOn_inBounds l h c) (by simp)

theorem ownerPause_decided (h : InBounds s) (n : Nat) : DecidedInBounds s (ownerPause n s) :=
  onLine_decided h n fun l => by
    split
    iterate 4 exact stopOn_decided h l _
    exact decided_same h

theorem ownerStop_decided (h : InBounds s) (n : Nat) : DecidedInBounds s (ownerStop n s) :=
  onLine_decided h n fun l => by
    split
    iterate 4 exact stopOn_decided h l _
    · exact decided_of_port (enterState_inBounds l (modCtx_inBounds l h _) _) (by simp [finishPaused])
    · exact decided_same h

theorem ownerEmergencyStop_decided (h : InBounds s) : DecidedInBounds s (ownerEmergencyStop s) :=
  decided_of_port (closeBothValves_inBounds (stopOn_inBounds _ (stopOn_inBounds _ h _) _) _) (by simp [ownerEmergencyStop])

theorem ownerEnd_decided (h : InBounds s) (n : Nat) : DecidedInBounds s (ownerEnd n s) :=
  onLine_decided h n fun l => by
    split
    · exact decided_same h
    · next d _ =>
      have hc := modCtx_inBounds l h fun _ => endContext s d
      exact ite_decided (decided_of_port (enterState_inBounds l (journal_inBounds hc _) _) (by simp [endLine])) (decided_same h)

theorem ownerReadLineStatus_decided (h : InBounds s) (n : Nat) : DecidedInBounds s (ownerReadLineStatus n s) :=
  onLine_decided h n fun _ => decided_same h

theorem ownerReadTotalizers_decided (h : InBounds s) (n : Nat) : DecidedInBounds s (ownerReadTotalizers n s) :=
  onLine_decided h n fun _ => decided_same h

/-! ### Orders, compartments and products -/

theorem ownerLoadOrder_decided (h : InBounds s) (order product : Nat) (preset : Volume) (price customer : Nat) :
    DecidedInBounds s (ownerLoadOrder order product preset price customer s) := by
  unfold ownerLoadOrder
  split
  · exact decided_same h
  · refine ite_decided (decided_same h) (ite_decided (decided_same h) ?_)
    split
    · exact decided_same h
    · next hroom =>
      refine decided_of_port { h with orders := ?_ } rfl
      simp only [maxOrders] at hroom
      rw [List.length_append, List.length_singleton]
      omega

theorem ownerRemoveOrder_decided (h : InBounds s) (order : Nat) : DecidedInBounds s (ownerRemoveOrder order s) := by
  unfold ownerRemoveOrder
  split
  · exact decided_same h
  · exact ite_decided (decided_same h)
      (decided_of_port (orders_inBounds h (List.length_filter_le _ _)) rfl)

theorem ownerReadOrder_decided (h : InBounds s) (position : Nat) : DecidedInBounds s (ownerReadOrder position s) := by
  unfold ownerReadOrder
  split <;> exact decided_same h

theorem ownerLoadCompartment_decided (h : InBounds s) (c product : Nat) (volume reserve : Volume) :
    DecidedInBounds s (ownerLoadCompartment c product volume reserve s) := by
  unfold ownerLoadCompartment
  split
  · next c p _ _ =>
    have hm := modCompartment_inBounds h c fun k => { k with product := p, remaining := volume, reserve := reserve }
    exact ite_decided (decided_same h) (ite_decided (decided_same h) (decided_of_port hm rfl))
  · exact decided_same h

theorem ownerReadCompartment_decided (h : InBounds s) (c : Nat) : DecidedInBounds s (ownerReadCompartment c s) := by
  unfold ownerReadCompartment
  split <;> exact decided_same h

theorem ownerReadProduct_decided (h : InBounds s) (p : Nat) : DecidedInBounds s (ownerReadProduct p s) := by
  unfold ownerReadProduct
  split <;> exact decided_same h

/-! ### Journal -/

theorem ownerReadRecord_decided (h : InBounds s) (q : Nat) : DecidedInBounds s (ownerReadRecord q s) := by
  unfold ownerReadRecord
  refine ite_decided (decided_same h) (ite_decided (decided_same h) ?_)
  split
  · exact decided_same h
  · split
    · exact decided_same h
    · next hroom => exact ⟨{ h with }, rfl, rfl, fun _ _ _ => Nat.not_lt.mp hroom⟩

theorem ownerReleaseThrough_decided (h : InBounds s) (q : Nat) : DecidedInBounds s (ownerReleaseThrough q s) :=
  ite_decided (decided_same h) (decided_of_port { h with } rfl)

/-! ### Calibration and lock -/

theorem ownerReadCalibrationItem_decided (h : InBounds s) (scope kind band : Nat) :
    DecidedInBounds s (ownerReadCalibrationItem scope kind band s) := by
  unfold ownerReadCalibrationItem
  split <;> exact decided_same h

theorem restartRelock_inBounds (h : InBounds s) : InBounds (restartRelock s) := by
  unfold restartRelock
  split
  · exact { h with }
  · exact h

theorem restartRelock_port (s : State) : (restartRelock s).port = s.port := by
  unfold restartRelock
  split <;> rfl

theorem acceptCalibration_inBounds (h : InBounds s) (item : RecordItem) (old new : CalValue) :
    InBounds (acceptCalibration item old new s) := restartRelock_inBounds { h with }

theorem acceptCalibration_port (item : RecordItem) (old new : CalValue) (s : State) :
    (acceptCalibration item old new s).port = s.port := restartRelock_port _

theorem ownerWriteCalibrationItem_decided (h : InBounds s) (quoted scope kind band : Nat) (value : BitVec 64) :
    DecidedInBounds s (ownerWriteCalibrationItem quoted scope kind band value s) := by
  have hr : ∀ st, DecidedInBounds s (refuseWrite s st) := fun _ => decided_same h
  unfold ownerWriteCalibrationItem
  refine ite_decided (hr _) (ite_decided (hr _) (ite_decided (hr _) (ite_decided (hr _) ?_)))
  split
  · exact hr _
  · exact ite_decided (hr _) (ite_decided (hr _)
      (decided_of_port (acceptCalibration_inBounds h _ _ _) (acceptCalibration_port _ _ _ _)))

theorem ownerSetCredential_decided (h : InBounds s) (kind : Nat) (value : BitVec 128) (level : Nat) :
    DecidedInBounds s (ownerSetCredential kind value level s) := by
  have hr : ∀ st, DecidedInBounds s (s, plain st) := fun _ => decided_same h
  unfold ownerSetCredential
  refine ite_decided (hr _) (ite_decided (hr _) (ite_decided (hr _) (ite_decided (hr _) ?_)))
  split
  · exact hr _
  · exact ite_decided (hr _) (ite_decided (hr _)
      (decided_of_port { acceptCalibration_inBounds h _ _ _ with } (acceptCalibration_port _ _ _ _)))

theorem ownerRemoveLock_decided (h : InBounds s) : DecidedInBounds s (ownerRemoveLock s) :=
  have hr : ∀ st, DecidedInBounds s (s, plain st) := fun _ => decided_same h
  ite_decided (hr _) (ite_decided (hr _) (ite_decided (hr _) (ite_decided (hr _)
    (decided_of_port (acceptCalibration_inBounds h _ _ _) (acceptCalibration_port _ _ _ _)))))

theorem ownerUnlock_decided (h : InBounds s) (kind : Nat) (value : BitVec 128) :
    DecidedInBounds s (ownerUnlock kind value s) := by
  have hr : ∀ st, DecidedInBounds s (unlockAnswer s st) := fun _ => decided_same h
  unfold ownerUnlock
  refine ite_decided (hr _) (ite_decided (hr _) ?_)
  split
  · exact hr _
  · exact ite_decided (hr _) (ite_decided (hr _) (ite_decided
      (decided_of_port { h with attempts := (Nat.sub_le _ _).trans h.attempts } rfl)
      (decided_of_port { h with } rfl)))

theorem ownerLock_decided (h : InBounds s) : DecidedInBounds s (ownerLock s) := by
  unfold ownerLock
  split
  · exact decided_same h
  · exact decided_same h
  · exact decided_of_port { h with } rfl

/-! ### Forwarding, settings, clock, conditions, park and restart -/

theorem ownerWritePassEntry_decided (h : InBounds s) (i d v m a g p : Nat) :
    DecidedInBounds s (ownerWritePassEntry i d v m a g p s) := by
  unfold ownerWritePassEntry
  split
  · exact decided_of_port { h with } rfl
  · exact decided_same h

theorem ownerDeletePassEntry_decided (h : InBounds s) (i : Nat) : DecidedInBounds s (ownerDeletePassEntry i s) := by
  unfold ownerDeletePassEntry
  split
  · exact decided_same h
  · exact decided_of_port { h with } rfl

theorem ownerReadPassEntry_decided (h : InBounds s) (i : Nat) : DecidedInBounds s (ownerReadPassEntry i s) := by
  unfold ownerReadPassEntry
  split <;> exact decided_same h

theorem ownerClearForwardingCounters_decided (h : InBounds s) : DecidedInBounds s (ownerClearForwardingCounters s) :=
  decided_of_port { h with forward := ⟨h.forward.1, h.forward.2.1, Counters.fit_zero, Counters.fit_zero⟩ } rfl

theorem ownerWriteSetting_decided (h : InBounds s) (setting line : Nat) (value : Int) (persist : Nat) :
    DecidedInBounds s (ownerWriteSetting setting line value persist s) := by
  unfold ownerWriteSetting
  split
  · refine decided_of_port { h with settings := Settings.inRange_putSetting h.settings _ _, stored := ?_ } rfl
    dsimp only
    split
    · exact Settings.inRange_putSetting h.stored _ _
    · exact h.stored
  · exact decided_same h

theorem ownerReadSetting_decided (h : InBounds s) (setting line : Nat) :
    DecidedInBounds s (ownerReadSetting setting line s) := by
  unfold ownerReadSetting
  split <;> exact decided_same h

theorem ownerRestoreDefaults_decided (h : InBounds s) : DecidedInBounds s (ownerRestoreDefaults s) :=
  decided_of_port { h with settings := Settings.inRange_defaults, stored := Settings.inRange_defaults } rfl

theorem ownerClearCondition_decided (h : InBounds s) (rank : Nat) : DecidedInBounds s (ownerClearCondition rank s) :=
  ite_decided (decided_same h) (ite_decided (decided_of_port { h with } rfl) (decided_same h))

/-- A pending request touches neither the response slot nor the command in flight. -/
theorem setPending_decided (h : InBounds s) (k : ResetKind) : DecidedInBounds s (setPending k s, plain .ok) :=
  ⟨{ h with }, rfl, rfl, fun _ _ e => nomatch e⟩

theorem ownerPark_decided (h : InBounds s) : DecidedInBounds s (ownerPark s) :=
  ite_decided (decided_same h) (ite_decided (decided_same h) (setPending_decided h _))

theorem ownerRestart_decided (h : InBounds s) : DecidedInBounds s (ownerRestart s) :=
  ite_decided (decided_same h) ⟨{ h with }, rfl, rfl, fun _ _ e => nomatch e⟩

theorem runCommand_decided (h : InBounds s) (c : Command) : DecidedInBounds s (runCommand c s) := by
  cases c with
  | arm line order compartment => exact onLine_decided h line fun l => armLine_decided h l order compartment
  | armFlush line compartment => exact onLine_decided h line fun l => armFlushLine_decided h l compartment
  | disarm line => exact ownerDisarm_decided h line
  | start line => exact ownerStart_decided h line
  | pause line => exact ownerPause_decided h line
  | resume line => exact ownerResume_decided h line
  | stop line => exact ownerStop_decided h line
  | endDelivery line => exact ownerEnd_decided h line
  | emergencyStop => exact ownerEmergencyStop_decided h
  | readLineStatus line => exact ownerReadLineStatus_decided h line
  | readTotalizers line => exact ownerReadTotalizers_decided h line
  | loadOrder order product preset price customer => exact ownerLoadOrder_decided h order product preset price customer
  | removeOrder order => exact ownerRemoveOrder_decided h order
  | readOrder position => exact ownerReadOrder_decided h position
  | loadCompartment c product volume reserve => exact ownerLoadCompartment_decided h c product volume reserve
  | readCompartment c => exact ownerReadCompartment_decided h c
  | readProduct p => exact ownerReadProduct_decided h p
  | readRecord q => exact ownerReadRecord_decided h q
  | releaseThrough q => exact ownerReleaseThrough_decided h q
  | readJournalState => exact decided_same h
  | readCalibrationIdentity => exact decided_same h
  | readCalibrationItem scope kind band => exact ownerReadCalibrationItem_decided h scope kind band
  | writeCalibrationItem quoted scope kind band value =>
    exact ownerWriteCalibrationItem_decided h quoted scope kind band value
  | unlock kind credential => exact ownerUnlock_decided h kind credential
  | lock => exact ownerLock_decided h
  | setCredential kind credential level => exact ownerSetCredential_decided h kind credential level
  | removeLock => exact ownerRemoveLock_decided h
  | freeze => exact decided_of_port { h with } rfl
  | writePassEntry i d v m a g p => exact ownerWritePassEntry_decided h i d v m a g p
  | deletePassEntry i => exact ownerDeletePassEntry_decided h i
  | readPassEntry i => exact ownerReadPassEntry_decided h i
  | readForwardingCounters => exact decided_same h
  | clearForwardingCounters => exact ownerClearForwardingCounters_decided h
  | setTime time => exact decided_of_port { h with } rfl
  | writeSetting setting line value persist => exact ownerWriteSetting_decided h setting line value persist
  | readSetting setting line => exact ownerReadSetting_decided h setting line
  | restoreDefaults => exact ownerRestoreDefaults_decided h
  | readDeviceStatus => exact decided_of_port { h with } rfl
  | clearCondition rank => exact ownerClearCondition_decided h rank
  | park => exact ownerPark_decided h
  | restart => exact ownerRestart_decided h

/-! ### The command port -/

theorem remember_inBounds (h : InBounds s) (code : Nat) (st : AnswerStatus) : InBounds (remember code st s) := { h with }

theorem freePlaces_eq (s : State) : freePlaces s = 4 - s.port.responses.length - s.port.kept := rfl

/-- A response finds its place where one is free beside the kept one (R180). -/
theorem placeResponse_inBounds (h : InBounds s) (hroom : 1 ≤ freePlaces s) (code tag : Nat) (st : Status)
    (data : List Byte) : InBounds (placeResponse code tag st data s) := by
  rw [freePlaces_eq] at hroom
  refine { h with port := ⟨h.port.1, ?_⟩ }
  show (s.port.responses ++ [_]).length + s.port.kept ≤ 4
  rw [List.length_append, List.length_singleton]
  omega

theorem freePlaces_placeResponse (code tag : Nat) (st : Status) (data : List Byte) (s : State) :
    freePlaces (placeResponse code tag st data s) = freePlaces s - 1 := by
  show 4 - (s.port.responses ++ [_]).length - s.port.kept = freePlaces s - 1
  rw [freePlaces_eq, List.length_append, List.length_singleton]
  omega

/-- The answer to a decided command finds its places. -/
theorem placeAnswer_inBounds {r : State × Answer} (hr : DecidedInBounds s r) (hroom : freePlaces s ≠ 0) (code tag : Nat) :
    InBounds (placeAnswer code tag r.2 r.1) := by
  obtain ⟨t, a⟩ := r
  obtain ⟨ht, hresp, hflight, hrec⟩ := hr
  have hfree : freePlaces t = freePlaces s := by
    rw [freePlaces_eq, freePlaces_eq, CommandPort.kept, CommandPort.kept, hresp, hflight]
  rw [← hfree] at hroom
  cases a with
  | reply st data => exact placeResponse_inBounds ht (Nat.one_le_iff_ne_zero.mpr hroom) ..
  | record x y =>
    have h2 : 2 ≤ freePlaces t := hfree.symm ▸ hrec x y rfl
    refine placeResponse_inBounds (placeResponse_inBounds ht (Nat.le_of_succ_le h2) ..) ?_ ..
    rw [freePlaces_placeResponse]
    exact Nat.le_sub_of_add_le h2
  | inFlight =>
    rw [freePlaces_eq] at hroom
    exact { ht with port := ⟨ht.port.1, show t.port.responses.length + 1 ≤ 4 by omega⟩ }

theorem decideCommand_decided (h : InBounds s) (code : Nat) (c : Option Command) :
    DecidedInBounds s (decideCommand code c s) := by
  unfold decideCommand
  refine ite_decided (decided_same h) (ite_decided (decided_same h) ?_)
  split
  · exact decided_same h
  · exact runCommand_decided h _

theorem takeCommandFrame_inBounds (h : InBounds s) (code tag : Nat) (c : Option Command) :
    InBounds (takeCommandFrame code tag c s) := by
  unfold takeCommandFrame
  split
  · exact remember_inBounds h _ _
  · next hroom => exact remember_inBounds (placeAnswer_inBounds (decideCommand_decided h code c) hroom code tag) _ _

theorem receiveCab_inBounds (h : InBounds s) {f : State → State} (hf : InBounds (f s)) : InBounds (receiveCab f s) :=
  ite_inBounds h (ite_inBounds (wakeEvent_inBounds h) (ite_inBounds h (ite_inBounds h hf)))

theorem handleCabFrame_inBounds (h : InBounds s) (f : Frame) : InBounds (handleCabFrame f s) :=
  ite_inBounds (ite_inBounds (takeCommandFrame_inBounds h _ _ _) h)
    (ite_inBounds (protectedDrops_inBounds h _ _) (forwardFrame_inBounds h _ _))

/-! ### Power and the completion of writes -/

theorem enterHoldup_inBounds (h : InBounds s) : InBounds (enterHoldup s) :=
  { closeBothValves_inBounds (stopOn_inBounds .line2 (stopOn_inBounds .line1 h .powerLoss) .powerLoss) .powerLoss with }

theorem takePowerFail_inBounds (h : InBounds s) : InBounds (takePowerFail s) :=
  ite_inBounds h (enterHoldup_inBounds (ite_inBounds (wakeActions_inBounds h) h))

theorem restoreVolatile_inBounds (h : InBounds s) (keep : Bool) : InBounds (restoreVolatile keep s) where
  settings := h.stored
  stored := h.stored
  port := ⟨h.stored.1, Nat.zero_le _⟩
  forward := ⟨Nat.zero_le _, Nat.zero_le _, Counters.fit_zero, Counters.fit_zero⟩
  orders := h.orders
  attempts := h.attempts
  pulse := fun
    | .line1 => PulseInput.fit_cleared _
    | .line2 => PulseInput.fit_cleared _
  probe := fun
    | .line1 => Nat.zero_le _
    | .line2 => Nat.zero_le _

theorem itemEffect_inBounds (h : InBounds s) (sel : ItemSel) : InBounds (itemEffect sel s) := by
  unfold itemEffect
  split
  · exact modKept_inBounds _ h _
  · exact modValve_inBounds _ (issueStage_inBounds _ h _) _
  · exact h

theorem takeStaged_attempts (which : CredentialKind) (level : Bool) (lk : Lock) :
    (takeStaged which level lk).attempts = lk.attempts := by cases which <;> rfl

theorem applyRecord_inBounds (h : InBounds s) (level : Bool) (r : CalibrationRecord) :
    InBounds (applyRecord level r s) := by
  unfold applyRecord
  dsimp only
  split
  · next sel _ =>
    exact { itemEffect_inBounds (s := { s with cal := setItem s.cal sel r.newValue }) { h with } sel with }
  · exact { h with attempts := (takeStaged_attempts _ _ _).le.trans h.attempts }
  · exact { h with }

theorem checkNewestCalibration_inBounds (h : InBounds s) : InBounds (checkNewestCalibration s) := by
  unfold checkNewestCalibration
  split
  · exact h
  · unfold checkRecord
    refine ite_inBounds { h with } ?_
    split
    · exact ite_inBounds (applyRecord_inBounds h _ _) h
    · exact h

theorem requestRewrite_inBounds (h : InBounds s) (l : LineId) : InBounds (requestRewrite s l) := by
  rw [requestRewrite_eq]
  exact { h with }

theorem restoreLock_inBounds (h : InBounds s) : InBounds (restoreLock s) := { h with attempts := Nat.le_refl 5 }

theorem runPowerOn_inBounds (h : InBounds s) (keep : Bool) : InBounds (runPowerOn keep s) := by
  have hj : InBounds (repairJournal (restoreVolatile keep s)) := { restoreVolatile_inBounds h keep with }
  have hr : InBounds (restore keep s) := requestRewrite_inBounds (requestRewrite_inBounds
    (restoreLock_inBounds (checkNewestCalibration_inBounds hj)) _) _
  exact ite_inBounds (enterHoldup_inBounds hr) hr

theorem takeRelease_inBounds (h : InBounds s) : InBounds (takeRelease s) :=
  ite_inBounds h (ite_inBounds (runPowerOn_inBounds h _) { h with })

theorem performReset_inBounds (h : InBounds s) (k : ResetKind) : InBounds (performReset k s) := by
  unfold performReset
  refine ite_inBounds ?_ h
  cases k with
  | park =>
    exact ite_inBounds { h with } { h with forward := ⟨Nat.zero_le _, Nat.zero_le _, h.forward.2.2⟩ }
  | restart =>
    have ht := tick_inBounds .line2 (tick_inBounds .line1 h)
    exact runPowerOn_inBounds (store_inBounds ht _) _

theorem countForwarded_inBounds (h : InBounds s) (d : Direction) (t : Transmission) :
    InBounds (countForwarded d t s) :=
  ite_inBounds (modCounters_inBounds h d fun _ => Counters.fit_addForwarded) h

theorem performCompletion_inBounds (h : InBounds s) (t : Transmission) : InBounds (performCompletion t s) := by
  unfold performCompletion
  split
  · exact h
  · exact performReset_inBounds h _

theorem takeTransmission_inBounds (h : InBounds s) (k : Link) : InBounds (takeTransmission k s) := by
  unfold takeTransmission
  split
  · split
    · exact countForwarded_inBounds (s := { s with forward := { s.forward with txField := none } }) { h with } _ _
    · exact h
  · split
    · exact performCompletion_inBounds (countForwarded_inBounds
        (s := { s with forward := { s.forward with txCab := none } }) { h with } _ _) _
    · exact h

theorem closeLine_inBounds (h : InBounds s) (l : LineId) : InBounds (closeLine l s) := by
  unfold closeLine
  split
  · exact h
  · next d _ =>
    have hg : InBounds (releaseGrant d s) := modCompartment_inBounds h _ _
    dsimp only
    split
    · exact enterState_inBounds l (modKept_inBounds l hg _) _
    · exact enterState_inBounds l (modKept_inBounds l (orders_inBounds hg (List.length_filter_le _ _)) _) _

/-- The response to the command in flight takes the place that was kept for it (R180, R181). -/
theorem answerInFlight_inBounds (h : InBounds s) (q : Nat) : InBounds (answerInFlight q s) := by
  have hslot := h.port.2
  unfold answerInFlight
  split
  · exact h
  · next i hi =>
    rw [CommandPort.kept, hi, Option.isSome_some, if_pos rfl] at hslot
    refine placeResponse_inBounds (s := { s with port := { s.port with inFlight := none } })
      { h with port := ⟨h.port.1, show s.port.responses.length + 0 ≤ 4 by omega⟩ } ?_ ..
    show 1 ≤ 4 - s.port.responses.length - 0
    omega

theorem reportCompletion_inBounds (h : InBounds s) (w : JournalWrite) : InBounds (reportCompletion w s) := by
  unfold reportCompletion
  split
  · exact closeLine_inBounds h _
  · exact answerInFlight_inBounds (restartRelock_inBounds (applyRecord_inBounds h _ _)) _
  · exact h

theorem takeWriteCompletion_inBounds (h : InBounds s) : InBounds (takeWriteCompletion s) := by
  unfold takeWriteCompletion
  split
  · exact h
  · next w rest _ =>
    have hr := reportCompletion_inBounds (s := { s with journal := completeWrite w rest s.journal }) { h with } w
    exact ite_inBounds (runPowerOn_inBounds (store_inBounds hr _) _) hr

theorem loseSupply_inBounds (h : InBounds s) (between : Bool) : InBounds (loseSupply between s) := by
  have hs : InBounds (storeFirstOnly s) := by
    unfold storeFirstOnly
    split
    · exact h
    · split
      · exact { h with }
      · exact h
  have hb : InBounds (if between then storeFirstOnly s else s) := ite_inBounds hs h
  exact ite_inBounds { hb with } h

/-! ### Commands and steps -/

theorem event_inBounds (h : InBounds s) {f : State → State} (hf : InBounds (f s)) : InBounds (event f s) :=
  ite_inBounds (settle_inBounds hf s) h

theorem timedEvent_inBounds (h : InBounds s) (t : Micros) {f : State → State}
    (hf : ∀ q, InBounds q → InBounds (f q)) : InBounds (timedEvent t f s) :=
  event_inBounds h (hf _ (advanceTo_inBounds h t))

theorem takeCommand_inBounds (h : InBounds s) (tag : Nat) (c : Command) : InBounds (takeCommand tag c s) :=
  event_inBounds h (receiveCab_inBounds h (takeCommandFrame_inBounds h _ _ _))

theorem exec_inBounds (h : InBounds s) {i : Instr} {t : State} (he : exec i s = .next t) : InBounds t := by
  cases i <;> injection he with he <;> subst he
  case edgeEvent l e t =>
    have hl : InBounds (setLevel l e s) := { h with }
    exact timedEvent_inBounds hl t fun _ hq => takeEdge_inBounds l hq e
  case periodTimerOverflow l t => exact timedEvent_inBounds h t fun _ hq => takeOverflow_inBounds l hq
  case meteringTick l t => exact timedEvent_inBounds h t fun _ hq => takeTick_inBounds l hq
  case temperatureAgeExpiry l t => exact timedEvent_inBounds h t fun _ hq => hq
  case noFlowTimerExpiry l t => exact timedEvent_inBounds h t fun _ hq => takeNoFlowExpiry_inBounds l hq
  case airClearTimerExpiry l t => exact timedEvent_inBounds h t fun _ hq => takeAirClearExpiry_inBounds l hq
  case airHoldTimerExpiry l t => exact timedEvent_inBounds h t fun _ hq => takeAirHoldExpiry_inBounds l hq
  case airSilenceExpiry l t => exact timedEvent_inBounds h t fun _ hq => takeAirSilenceExpiry_inBounds l hq
  case reportTimerExpiry l t => exact timedEvent_inBounds h t fun _ hq => takeReportExpiry_inBounds l hq
  case relockTimerExpiry t => exact timedEvent_inBounds h t fun _ hq => takeRelockExpiry_inBounds hq
  case confirmationTimerExpiry l t => exact timedEvent_inBounds h t fun _ hq => takeConfirmExpiry_inBounds l hq
  case retryTimerExpiry l t => exact timedEvent_inBounds h t fun _ hq => takeRetryExpiry_inBounds l hq
  case wakeDelayEnd t => exact timedEvent_inBounds h t fun _ hq => takeWakeDelayEnd_inBounds hq
  case fieldFrameArrival f => exact event_inBounds h (takeFieldFrame_inBounds h f)
  case cabFrameArrival f => exact event_inBounds h (receiveCab_inBounds h (handleCabFrame_inBounds h f))
  case fieldPortTake => exact event_inBounds h (takeFieldPort_inBounds h)
  case cabPortTake => exact event_inBounds h (takeCabPort_inBounds h)
  case transmissionCompletion k => exact event_inBounds h (takeTransmission_inBounds h k)
  case busOff k => exact event_inBounds h (enterBusOff_inBounds h k)
  case busOffRecovery k => exact event_inBounds h (recoverBusOff_inBounds h k)
  case writeCompletion => exact event_inBounds h (takeWriteCompletion_inBounds h)
  case powerFail =>
    have hp : InBounds (setFailPin true s) := { h with }
    exact event_inBounds hp (takePowerFail_inBounds hp)
  case powerFailRelease =>
    have hp : InBounds (setFailPin false s) := { h with }
    exact event_inBounds hp (takeRelease_inBounds hp)
  case supplyFailure b => exact loseSupply_inBounds h b
  case powerOn => exact settle_inBounds (runPowerOn_inBounds h false) s
  case storageMediumFailure q left => exact { h with }
  all_goals exact takeCommand_inBounds h _ _

theorem idle_inBounds (h : InBounds s) : InBounds (idle s) := by
  unfold idle
  refine ite_inBounds ?_ h
  split
  · exact { h with }
  · exact advanceTo_inBounds h _

theorem step_inBounds (h : InBounds s) {t : State} (hs : step s = .next t) : InBounds t := by
  unfold step at hs
  split at hs
  · injection hs with hs
    exact hs ▸ idle_inBounds h
  · next rest _ => exact exec_inBounds (s := { s with pending := rest }) { h with } hs

end

/-- Settles O58: the two laws are `InBounds`, which every command keeps. -/
theorem stepKeepsSettingsAndBounds : Obligations.StepKeepsSettingsAndBounds := by
  unfold Obligations.StepKeepsSettingsAndBounds
  intro s t hset hbounds hstep
  exact (inBounds_iff t).mp (step_inBounds ((inBounds_iff s).mpr ⟨hset, hbounds⟩) hstep)

end Sys2Proof.Machine

namespace Sys2Proof.Machine

/-! ## Pulse inputs: edges, the period timer's overflow, and wake (R1 to R9, R17, R18, R199) -/

/-! ### The time base -/

/-- The time of the lines stands still in park (R17). -/
theorem advanceTo_awake_of_parked {s : State} (h : s.power.parked = true) (t : Micros) :
    (advanceTo t s).awake = s.awake := by
  simp [advanceTo, h]

/-! ### One pulse input -/

theorem glitchAccepts_eq_true {ref : Option Micros} {now : Micros} (h : ∀ r, ref = some r → 200 ≤ now - r) :
    glitchAccepts ref now = true := by
  cases ref with
  | none => rfl
  | some r => exact decide_eq_true (h r rfl)

theorem glitchAccepts_eq_false {ref : Option Micros} {now r : Micros} (hr : ref = some r) (h : now - r < 200) :
    glitchAccepts ref now = false := by
  subst hr
  exact decide_eq_false (Nat.not_le.mpr h)

/-- The overflow count stands at 31 once 31 periods of the timer have passed (R6). -/
theorem settleOverflow_of_due {awake : Micros} {p : PulseInput} (h : p.timerStart + 2031616 ≤ awake) :
    settleOverflow awake p = { p with flow := 0, periodStart := false } := by
  have h31 : overflowCount awake p = 31 := by
    simp only [overflowCount]
    simp only [Micros] at *
    omega
  simp only [settleOverflow, h31, if_true, overflowPulse]

@[simp] theorem settleOverflow_refA (awake : Micros) (p : PulseInput) : (settleOverflow awake p).refA = p.refA := by
  unfold settleOverflow
  split <;> rfl

theorem checkAlternation_eq (c : Channel) (p : PulseInput) :
    checkAlternation c p =
      { p with errors := if p.last = some c then min 65535 (p.errors + 1) else p.errors, last := some c } := by
  unfold checkAlternation
  split <;> rfl

theorem countPulse_eq (bHigh : Bool) (p : PulseInput) :
    countPulse bHigh p =
      { p with
        forward := if bHigh then p.forward else min 65535 (p.forward + 1)
        reverse := if bHigh then min 65535 (p.reverse + 1) else p.reverse } := by
  cases bHigh <;> rfl

/-- Before the overflow, the overflow count and the timer give the time since the last restart (R6, R7). -/
theorem capturedPeriod_of_rests {awake : Micros} {p : PulseInput} (h : awake < p.timerStart + 2031616) :
    overflowCount awake p ≤ 30 ∧ capturedPeriod awake p = awake - p.timerStart := by
  simp only [capturedPeriod, overflowCount, periodTimer]
  simp only [Micros] at *
  omega

/-- The flow rate that a forward pulse leaves before the overflow (R7, R8). -/
theorem forwardTiming_of_rests {awake : Micros} {p : PulseInput} (h : awake < p.timerStart + 2031616) (k : Nat) :
    forwardTiming awake k p =
      { p with
        flow := if p.periodStart then flowOfPeriod k (awake - p.timerStart) else p.flow
        timerStart := awake
        periodStart := true } := by
  obtain ⟨hcount, hperiod⟩ := capturedPeriod_of_rests h
  simp only [forwardTiming, captures, hcount, hperiod, decide_true, Bool.true_and]

/-- Without a period start no period is captured (R7). -/
theorem forwardTiming_of_noStart {p : PulseInput} (h : p.periodStart = false) (awake : Micros) (k : Nat) :
    forwardTiming awake k p = { p with timerStart := awake, periodStart := true } := by
  simp only [forwardTiming, captures, h, Bool.and_false, Bool.false_eq_true, if_false]

/-- An accepted A edge counts and is judged for alternation, before the period timer's part (R2 to R4). -/
def countedA (bHigh : Bool) (now : Micros) (p : PulseInput) : PulseInput :=
  { p with
    forward := if bHigh then p.forward else min 65535 (p.forward + 1)
    reverse := if bHigh then min 65535 (p.reverse + 1) else p.reverse
    errors := if p.last = some .a then min 65535 (p.errors + 1) else p.errors
    refA := some now
    last := some .a }

theorem edgeA_of_accepted {p : PulseInput} {now : Micros} (h : ∀ r, p.refA = some r → 200 ≤ now - r)
    (parked bHigh : Bool) (awake : Micros) (k : Nat) :
    edgeA parked bHigh now awake k p = timePulse parked bHigh awake k (countedA bHigh now p) := by
  simp only [edgeA, glitchAccepts_eq_true h, if_true, acceptA, checkAlternation_eq, countPulse_eq, countedA]

theorem edgeA_of_rejected {p : PulseInput} {now r : Micros} (hr : p.refA = some r) (h : now - r < 200)
    (parked bHigh : Bool) (awake : Micros) (k : Nat) :
    edgeA parked bHigh now awake k p = { p with errors := min 65535 (p.errors + 1) } := by
  simp only [edgeA, glitchAccepts_eq_false hr h, Bool.false_eq_true, if_false]
  rfl

theorem edgeB_of_accepted {p : PulseInput} {now : Micros} (h : ∀ r, p.refB = some r → 200 ≤ now - r) :
    edgeB now p =
      { p with
        errors := if p.last = some .b then min 65535 (p.errors + 1) else p.errors
        refB := some now
        last := some .b } := by
  simp only [edgeB, glitchAccepts_eq_true h, if_true, checkAlternation_eq]

theorem edgeB_of_rejected {p : PulseInput} {now r : Micros} (hr : p.refB = some r) (h : now - r < 200) :
    edgeB now p = { p with errors := min 65535 (p.errors + 1) } := by
  simp only [edgeB, glitchAccepts_eq_false hr h, Bool.false_eq_true, if_false]
  rfl

/-! ### An edge at the part -/

/-- What an edge makes of its line's pulse input, once an overflow before it has had its effect (entry 32). -/
def edgePulse (l : LineId) (e : PulserEdge) (s : State) (p : PulseInput) : PulseInput :=
  match e with
  | .falling _ => p
  | .rising .b => edgeB s.now p
  | .rising .a => edgeA s.power.parked (s.levels.get l).b s.now s.awake (s.cal.lines.get l).k p

theorem State.modPulse_modPulse (s : State) (l : LineId) (f g : PulseInput → PulseInput) :
    (s.modPulse l f).modPulse l g = s.modPulse l fun p => g (f p) := by
  cases l <;> rfl

/-- An edge that is no wake source acts on its pulse input alone. -/
theorem takeEdge_of_stays {l : LineId} {e : PulserEdge} {s : State}
    (h : e = .rising .a → s.power.parked = true → glitchAccepts (s.pulse.get l).refA s.now = false) :
    takeEdge l e s = s.modPulse l fun p => edgePulse l e s (settleOverflow s.awake p) := by
  rcases e with (_ | _) | _
  · have hw : (s.power.parked && glitchAccepts (s.pulse.get l).refA s.now) = false := by
      cases hp : s.power.parked
      · rfl
      · exact h rfl hp
    simp [takeEdge, State.modPulse_modPulse, edgePulse, hw]
  · exact State.modPulse_modPulse ..
  · rfl

/-- An accepted A edge of a parked part counts, and wakes the part (R17, R199). -/
theorem takeEdge_of_wakes {l : LineId} {s : State} (hp : s.power.parked = true)
    (h : glitchAccepts (s.pulse.get l).refA s.now = true) :
    takeEdge l (.rising .a) s =
      wakeEvent (s.modPulse l fun p => edgePulse l (.rising .a) s (settleOverflow s.awake p)) := by
  simp [takeEdge, State.modPulse_modPulse, edgePulse, hp, h]

/-- An edge event of the powered part: the level moves, time passes, the edge is taken, and the event ends. -/
theorem exec_edgeEvent_of_on {s : State} (h : s.power.on = true) (l : LineId) (e : PulserEdge) (t : Micros) :
    exec (.edgeEvent l e t) s = .next (settle s (takeEdge l e (advanceTo t (setLevel l e s)))) :=
  congrArg Host.Outcome.next (timedEvent_of_on (s := setLevel l e s) h)

/-- The state after an edge that is no wake source: time, its channel's level, and its pulse input. -/
theorem exec_edge_of_stays {l : LineId} {e : PulserEdge} {t : Micros} {s : State} {q : PulseInput}
    (hon : s.power.on = true)
    (h : e = .rising .a → s.power.parked = true → glitchAccepts (s.pulse.get l).refA (advanceTo t s).now = false)
    (hq : edgePulse l e (advanceTo t (setLevel l e s)) (settleOverflow (advanceTo t s).awake (s.pulse.get l)) = q) :
    exec (.edgeEvent l e t) s = .next (settle s
      { advanceTo t s with
        levels := s.levels.set l (levelAfter e (s.levels.get l))
        pulse := s.pulse.set l q }) := by
  rw [exec_edgeEvent_of_on hon, takeEdge_of_stays h, ← hq]
  rfl

/-- The B input's level is not moved by an A edge. -/
@[simp] theorem setLevel_risingA_b (l : LineId) (s : State) :
    ((setLevel l (.rising .a) s).levels.get l).b = (s.levels.get l).b := by
  cases l <;> rfl

/-- What an A edge makes of its pulse input, in the terms of the state before it. -/
theorem edgePulse_risingA (l : LineId) (t : Micros) (s : State) (p : PulseInput) :
    edgePulse l (.rising .a) (advanceTo t (setLevel l (.rising .a) s)) p =
      edgeA s.power.parked (s.levels.get l).b (advanceTo t s).now (advanceTo t s).awake (s.cal.lines.get l).k p := by
  cases l <;> rfl

/-- An accepted A edge before the overflow: counts, alternation, and the captured period (R3, R4, R7 to R9). -/
theorem timePulse_countedA_of_rests {awake now : Micros} {p : PulseInput} (h : awake < p.timerStart + 2031616)
    (bHigh : Bool) (k : Nat) :
    timePulse false bHigh awake k (countedA bHigh now p) =
      { countedA bHigh now p with
        timerStart := awake
        periodStart := !bHigh
        flow :=
          if bHigh then 0
          else if p.periodStart then
            (if k = 0 then 0 else min 65535 (600000000 / ((awake - p.timerStart) * k)))
          else p.flow } := by
  cases bHigh with
  | true => rfl
  | false => exact forwardTiming_of_rests (p := countedA false now p) h k

/-- An accepted A edge after the overflow captures no period (R7, R9; entry 32). -/
theorem timePulse_countedA_of_noStart {p : PulseInput} (h : p.periodStart = false) (hf : p.flow = 0)
    (bHigh : Bool) (awake now : Micros) (k : Nat) :
    timePulse false bHigh awake k (countedA bHigh now p) =
      { countedA bHigh now p with timerStart := awake, periodStart := !bHigh } := by
  cases bHigh with
  | true => simp [timePulse, reverseTiming, countedA, hf]
  | false => exact forwardTiming_of_noStart (p := countedA false now p) h awake k

/-- Settles O9: an accepted edge before the overflow counts, and then times the period by its channel B level. -/
theorem acceptedEdgeCountsAndTimes : Obligations.AcceptedEdgeCountsAndTimes := by
  unfold Obligations.AcceptedEdgeCountsAndTimes
  intro l t s hrun a p bHigh hrests hspaced
  refine exec_edge_of_stays hrun.supplied (fun _ hp => absurd hp (by simp [hrun.notParked])) ?_
  rw [settleOverflow_of_rests hrests, edgePulse_risingA, edgeA_of_accepted hspaced, hrun.notParked,
    timePulse_countedA_of_rests hrests]
  rfl

/-! ### The overflow event -/

theorem exec_overflow_of_on {s : State} (h : s.power.on = true) (l : LineId) (t : Micros) :
    exec (.periodTimerOverflow l t) s = .next (settle s (takeOverflow l (advanceTo t s))) :=
  congrArg Host.Outcome.next (timedEvent_of_on h)

/-- An overflow event of a parked part lets time pass alone (R17). -/
theorem takeOverflow_of_parked {s : State} (h : s.power.parked = true) (l : LineId) : takeOverflow l s = s := by
  simp [takeOverflow, h]

theorem takeOverflow_of_running {s : State} (h : s.power.parked = false) (l : LineId) :
    takeOverflow l s = s.modPulse l (settleOverflow s.awake) := by
  simp [takeOverflow, h]

/-- An overflow event that is not due lets time pass alone (entry 4). -/
theorem takeOverflow_of_rests {l : LineId} {s : State} (h : s.awake < (s.pulse.get l).timerStart + 2031616) :
    takeOverflow l s = s := by
  cases hp : s.power.parked
  · rw [takeOverflow_of_running hp, State.modPulse, settleOverflow_of_rests h, PerLine.set_get]
  · exact takeOverflow_of_parked hp l

/-- A metering tick that is not due, or that comes in park, lets time pass alone (R20; entry 4). -/
theorem exec_tick_of_rests {l : LineId} {t : Micros} {s : State} (hon : s.power.on = true)
    (h : s.power.parked = true ∨ (advanceTo t s).awake < (s.line.get l).nextTick) :
    exec (.meteringTick l t) s = .next (settle s (advanceTo t s)) := by
  have hd : tickDue (advanceTo t s) l = false := by
    simp only [tickDue, Bool.and_eq_false_iff, Bool.not_eq_false', decide_eq_false_iff_not, Nat.not_le]
    exact h
  exact congrArg Host.Outcome.next (timedEvent_of_rests hon (by simp [takeTick, hd]))

/-- The edges of the powered part, parked or not, that do not wake it, with the pulse input `q` that the overflow before
them has left. -/
theorem otherEdges_act {l : LineId} {t : Micros} {s : State} {q : PulseInput} (hon : s.power.on = true)
    (hq : settleOverflow (advanceTo t s).awake (s.pulse.get l) = q) :
    let a := advanceTo t s
    let v := s.levels.get l
    let becomes := fun (e : PulserEdge) (w : PulserLevels) (q : PulseInput) =>
      exec (.edgeEvent l e t) s = .next (settle s { a with levels := s.levels.set l w, pulse := s.pulse.set l q })
    (∀ r, q.refA = some r → a.now - r < 200 →
      becomes (.rising .a) { v with a := true } { q with errors := min 65535 (q.errors + 1) }) ∧
    (∀ r, q.refB = some r → a.now - r < 200 →
      becomes (.rising .b) { v with b := true } { q with errors := min 65535 (q.errors + 1) }) ∧
    ((∀ r, q.refB = some r → 200 ≤ a.now - r) →
      becomes (.rising .b) { v with b := true }
        { q with
          errors := if q.last = some .b then min 65535 (q.errors + 1) else q.errors
          refB := some a.now
          last := some .b }) ∧
    becomes (.falling .a) { v with a := false } q ∧ becomes (.falling .b) { v with b := false } q := by
  intro a v becomes
  have hA : q.refA = (s.pulse.get l).refA := hq ▸ settleOverflow_refA _ _
  refine ⟨fun r hr hnear => ?_, fun r hr hnear => ?_, fun hspaced => ?_, ?_, ?_⟩
  · refine exec_edge_of_stays hon (fun _ _ => glitchAccepts_eq_false (hA ▸ hr) hnear) ?_
    rw [hq, edgePulse_risingA, edgeA_of_rejected hr hnear]
  · exact exec_edge_of_stays hon nofun (hq.symm ▸ edgeB_of_rejected hr hnear)
  · exact exec_edge_of_stays hon nofun (hq.symm ▸ edgeB_of_accepted hspaced)
  · exact exec_edge_of_stays hon nofun hq
  · exact exec_edge_of_stays hon nofun hq

/-- Settles O10: the edges that wake nothing act on one pulse input, after the overflow where it has come. -/
theorem otherEdgesAndOverflow : Obligations.OtherEdgesAndOverflow := by
  unfold Obligations.OtherEdgesAndOverflow
  intro l t s hon a p v becomes acts still
  refine ⟨fun hrests => ⟨?_, ?_⟩, fun hdue => ?_, fun hp => ⟨?_, rfl, ?_, ?_⟩, fun hp hdue => ⟨?_, fun hspaced => ?_⟩⟩
  · exact otherEdges_act hon (settleOverflow_of_rests hrests)
  · rw [exec_overflow_of_on hon, takeOverflow_of_rests hrests]
  · exact otherEdges_act hon (settleOverflow_of_due hdue)
  · exact advanceTo_awake_of_parked hp t
  · rw [exec_overflow_of_on hon, takeOverflow_of_parked (by exact hp)]
  · exact exec_tick_of_rests hon (.inl hp)
  · rw [exec_overflow_of_on hon, takeOverflow_of_running (by exact hp), State.modPulse, advanceTo_pulse,
      settleOverflow_of_due hdue]
  · refine exec_edge_of_stays hon (fun _ hp' => absurd hp' (by simp [hp])) ?_
    rw [settleOverflow_of_due hdue, edgePulse_risingA, edgeA_of_accepted (by exact hspaced), hp,
      timePulse_countedA_of_noStart rfl rfl]
    rfl

/-! ### Wake -/

/-- At wake a pulse input keeps its counts, references and last channel (R18); an overflow before does not show. -/
theorem wakePulse_settleOverflow (at_ awake : Micros) (bHigh : Bool) (now : Micros) (p : PulseInput) :
    wakePulse at_ (countedA bHigh now (settleOverflow awake p)) = wakePulse at_ (countedA bHigh now p) := by
  unfold settleOverflow
  split <;> rfl

/-- What a wake leaves of the pulse inputs decides what it leaves. -/
theorem wakeEvent_congr {s : State} {P Q : PerLine PulseInput}
    (h : ∀ at_ m, wakePulse at_ (P.get m) = wakePulse at_ (Q.get m)) :
    wakeEvent { s with pulse := P } = wakeEvent { s with pulse := Q } := by
  have h1 : wakePulse s.awake P.line1 = wakePulse s.awake Q.line1 := h _ .line1
  have h2 : wakePulse s.awake P.line2 = wakePulse s.awake Q.line2 := h _ .line2
  simp only [wakeEvent, wakeActions, h1, h2]

/-- A cab frame wakes a parked part, whatever it holds (R199). -/
theorem exec_cabFrame_of_parked {s : State} (hon : s.power.on = true) (hp : s.power.parked = true)
    (hlink : s.forward.cabOff = false) (f : Frame) :
    exec (.cabFrameArrival f) s = .next (settle s (wakeEvent s)) := by
  refine congrArg Host.Outcome.next ((event_of_on hon).trans ?_)
  simp only [receiveCab, hlink, hp, Bool.false_eq_true, if_false, if_true]

/-- An accepted A edge wakes a parked part, and is counted at its pulse input (R4, R17, R199). -/
theorem exec_edgeA_of_parked {l : LineId} {t : Micros} {s : State} (hon : s.power.on = true)
    (hp : s.power.parked = true) (h : ∀ r, (s.pulse.get l).refA = some r → 200 ≤ (advanceTo t s).now - r) :
    exec (.edgeEvent l (.rising .a) t) s = .next (settle s (wakeEvent
      { advanceTo t s with
        levels := s.levels.set l { s.levels.get l with a := true }
        pulse := s.pulse.set l (countedA (s.levels.get l).b (advanceTo t s).now (s.pulse.get l)) })) := by
  have hspaced : ∀ r, (settleOverflow (advanceTo t s).awake (s.pulse.get l)).refA = some r →
      200 ≤ (advanceTo t s).now - r := by simpa using h
  have hedge : edgePulse l (.rising .a) (advanceTo t (setLevel l (.rising .a) s))
      (settleOverflow (advanceTo t s).awake (s.pulse.get l)) =
        countedA (s.levels.get l).b (advanceTo t s).now (settleOverflow (advanceTo t s).awake (s.pulse.get l)) := by
    rw [edgePulse_risingA, edgeA_of_accepted hspaced, hp]
    rfl
  have hwakes := takeEdge_of_wakes (l := l) (s := advanceTo t (setLevel l (.rising .a) s)) hp
    (glitchAccepts_eq_true h)
  rw [exec_edgeEvent_of_on hon, hwakes]
  refine congrArg (fun u => Host.Outcome.next (settle s u))
    (wakeEvent_congr (s := { advanceTo t s with levels := s.levels.set l { s.levels.get l with a := true } })
      fun at_ m => ?_)
  rw [PerLine.get_set, PerLine.get_set]
  split
  · exact (congrArg (wakePulse at_) hedge).trans (wakePulse_settleOverflow ..)
  · rfl

theorem exec_wakeDelayEnd_of_on {s : State} (h : s.power.on = true) (t : Micros) :
    exec (.wakeDelayEnd t) s = .next (settle s (takeWakeDelayEnd (advanceTo t s))) :=
  congrArg Host.Outcome.next (timedEvent_of_on h)

/-- Settles O8: both sources run the same wake, which an overflow found by the edge does not show in. -/
theorem wakeSourcesWakeThePart : Obligations.WakeSourcesWakeThePart := by
  unfold Obligations.WakeSourcesWakeThePart
  intro woken
  refine ⟨fun f s hon hp hlink => exec_cabFrame_of_parked hon hp hlink f, ?_, fun t d s hon hd hdue => ?_,
    fun t s hon hrests => ?_⟩
  · intro l t s hon hp bHigh p edge hspaced
    rw [exec_edgeA_of_parked hon hp hspaced]
    simp only [wakeEvent, wakeActions, advanceTo_awake_of_parked hp]
    rfl
  · have hd' : wakeDelayDue (advanceTo t s) = true := by
      rw [wakeDelayDue, advanceTo_power, hd]
      exact decide_eq_true hdue
    rw [exec_wakeDelayEnd_of_on hon, takeWakeDelayEnd, if_pos hd', advanceTo_power]
  · have hd' : wakeDelayDue (advanceTo t s) = false := timerDue_of_rests hrests
    simp only [exec_wakeDelayEnd_of_on hon, takeWakeDelayEnd, hd', Bool.false_eq_true, if_false]

end Sys2Proof.Machine

namespace Sys2Proof.Machine

/-! ## Metering ticks: conversion, routing, and what step 7 leaves (R12, R13, R20 to R36, R49) -/

/-! ### What steps 1 to 6 leave -/

theorem LineState.holds_eq (st : LineState) :
    st.holds = decide (st = .paused ∨ st = .finished ∨ st = .suspended ∨ st = .interrupted) := by
  cases st <;> rfl

/-- The states in which a tick routes to the unattended accumulator (R36). -/
theorem LineState.routes_eq_false_iff (st : LineState) :
    st.routes = false ↔ st = .idle ∨ st = .armed ∨ st = .closing := by
  cases st <;> simp [LineState.routes, LineState.holds]

/-- A volume-correction factor depends on the line's state, hose product, temperature and delivered product alone. -/
theorem tickRawVcf_congr {s t : State} {l : LineId} (hcal : t.cal = s.cal) (hst : t.lineState l = s.lineState l)
    (hhose : (t.line.get l).kept.hose = (s.line.get l).kept.hose) (htemp : (t.line.get l).temp = (s.line.get l).temp)
    (hctx : (t.ctx l).map (·.product) = (s.ctx l).map (·.product)) : tickRawVcf t l = tickRawVcf s l := by
  have hprod : (t.ctx l).map (fun d => s.cal.products[d.product]) = (s.ctx l).map fun d => s.cal.products[d.product] := by
    have h := congrArg (Option.map fun p : ProductNo => s.cal.products[p]) hctx
    rwa [Option.map_map, Option.map_map] at h
  simp only [tickRawVcf, tickProduct, hcal, hst, hhose, htemp, hprod]

/-- The integrity errors of a tick, as one change of the line's kept items (R13). -/
theorem countErrors_eq (l : LineId) (n : Nat) (s : State) :
    countErrors l n s = s.modKept l fun k =>
      { k with
        lifetimeErrors := addErrors k.lifetimeErrors n
        ctx :=
          if k.state = .closing then k.ctx
          else k.ctx.map fun d => { d with integrityErrors := addErrors d.integrityErrors n } } := by
  unfold countErrors
  cases l <;> (dsimp only; split) <;> rename_i h
  all_goals
    simp only [State.lineState, State.modKept, State.modLine, PerLine.get, PerLine.set] at h
    simp only [State.modCtx, State.modKept, State.modLine, PerLine.get, PerLine.set, h, if_true, if_false]

theorem State.modKept_modKept (s : State) (l : LineId) (f g : LineCopy → LineCopy) :
    (s.modKept l f).modKept l g = s.modKept l fun k => g (f k) := by
  cases l <;> rfl

/-- Both parts of a change of a line's kept items that leaves state, hose product, remainders and the delivered product
leave the conversion of a tick. -/
theorem tickRawVcf_modKept {s : State} {l : LineId} {f : LineCopy → LineCopy}
    (hst : ∀ k, (f k).state = k.state) (hhose : ∀ k, (f k).hose = k.hose)
    (hctx : ∀ k, (f k).ctx.map (·.product) = k.ctx.map (·.product)) :
    tickRawVcf (s.modKept l f) l = tickRawVcf s l := by
  cases l <;> exact tickRawVcf_congr rfl (hst _) (hhose _) rfl (hctx _)

/-- Integrity errors joining a delivery (R13). -/
def countedErrors (n : Nat) (d : Delivery) : Delivery := { d with integrityErrors := addErrors d.integrityErrors n }

/-- What a tick routes to a delivery (R35). -/
def routedDelivery (l : LineId) (s : State) (d : Delivery) : Delivery :=
  let p := s.pulse.get l
  let ln := s.line.get l
  routeDelivery (tickConversion s l (netPulses p) p.flow) s.cal.products[d.product].basis ln.airFlag p.reverse ln.temp
    (tickFlags ln.kept.state (netPulses p) (ageClass s.awake ln.temp) (tickClamps s l) ln.airSilent d.flags)
    (countedErrors p.errors d)

/-- The items of a line that steps 1 to 6 of a tick leave. -/
def keptLeft (l : LineId) (s : State) (k : LineCopy) : LineCopy :=
  let p := s.pulse.get l
  let c := tickConversion s l (netPulses p) p.flow
  let outside := s.lineState l = .idle ∨ s.lineState l = .armed ∨ s.lineState l = .closing
  { k with
    lifetimeErrors := addErrors k.lifetimeErrors p.errors
    grossTotal := k.grossTotal + c.gross
    netTotal := k.netTotal + c.net
    grossRem := c.grossRem
    netRem := c.netRem
    unattended := if outside then k.unattended + c.gross else k.unattended
    ctx :=
      if s.lineState l = .closing then k.ctx
      else if outside then k.ctx.map (countedErrors p.errors)
      else k.ctx.map (routedDelivery l s) }

/-- The compartments that steps 1 to 6 of a tick leave (R49). -/
def compartmentsLeft (l : LineId) (s : State) : Vector Compartment 6 :=
  let p := s.pulse.get l
  match s.ctx l with
  | none => s.compartments
  | some d =>
    if s.lineState l = .idle ∨ s.lineState l = .armed ∨ s.lineState l = .closing then s.compartments
    else s.compartments.set d.compartment
      { s.compartments[d.compartment] with
        remaining := s.compartments[d.compartment].remaining - (tickConversion s l (netPulses p) p.flow).net }

/-- The state that steps 1 to 6 of a tick leave (R20). -/
def tickLeft (l : LineId) (s : State) : State :=
  { (s.modPulse l takeCounts).modKept l (keptLeft l s) with compartments := compartmentsLeft l s }

/-- The errors and the totals of a tick, as one change of the line's kept items. -/
def keptCounted (l : LineId) (s : State) (k : LineCopy) : LineCopy :=
  addTotals (tickConversion s l (netPulses (s.pulse.get l)) (s.pulse.get l).flow)
    { k with
      lifetimeErrors := addErrors k.lifetimeErrors (s.pulse.get l).errors
      ctx := if k.state = .closing then k.ctx else k.ctx.map (countedErrors (s.pulse.get l).errors) }

/-- Counting errors leaves what the conversion of the tick reads. -/
theorem product_of_countedErrors (n : Nat) (k : LineCopy) :
    (if k.state = .closing then k.ctx else k.ctx.map (countedErrors n)).map (·.product) = k.ctx.map (·.product) := by
  split
  · rfl
  · rw [Option.map_map]
    rfl

theorem tickRawVcf_countErrors (l : LineId) (n : Nat) (s : State) : tickRawVcf (countErrors l n s) l = tickRawVcf s l := by
  rw [countErrors_eq]
  exact tickRawVcf_modKept (fun _ => rfl) (fun _ => rfl) (product_of_countedErrors n)

theorem tickConversion_countErrors (l : LineId) (e : Nat) (s : State) (n : Int) (flow : Nat) :
    tickConversion (countErrors l e s) l n flow = tickConversion s l n flow := by
  have hvcf : tickVcf (countErrors l e s) l = tickVcf s l := by simp only [tickVcf, tickRawVcf_countErrors]
  unfold tickConversion
  rw [hvcf, countErrors_eq]
  cases l <;> rfl

/-- Steps 1 to 4 of a tick. -/
theorem tick_eq_route (l : LineId) (s : State) :
    tick l s = evaluate l (route l (netPulses (s.pulse.get l)) (s.pulse.get l).reverse
      (tickConversion s l (netPulses (s.pulse.get l)) (s.pulse.get l).flow)
      ((s.modPulse l takeCounts).modKept l (keptCounted l s))) := by
  have hc := tickConversion_countErrors l (s.pulse.get l).errors (s.modPulse l takeCounts) (netPulses (s.pulse.get l))
    (s.pulse.get l).flow
  unfold tick
  dsimp only
  rw [hc, countErrors_eq, State.modKept_modKept]
  rfl

theorem tickClamps_keptCounted (l : LineId) (s : State) :
    tickClamps ((s.modPulse l takeCounts).modKept l (keptCounted l s)) l = tickClamps s l := by
  have h : tickRawVcf ((s.modPulse l takeCounts).modKept l (keptCounted l s)) l = tickRawVcf s l :=
    tickRawVcf_modKept (s := s.modPulse l takeCounts) (fun _ => rfl) (fun _ => rfl) (product_of_countedErrors _)
  simp only [tickClamps, h]

theorem State.modKept_congr {s : State} {l : LineId} {f g : LineCopy → LineCopy}
    (h : f (s.line.get l).kept = g (s.line.get l).kept) : s.modKept l f = s.modKept l g := by
  simp only [State.modKept, State.modLine, h]

/-- The state after steps 1 to 4 of a tick. -/
def tickCounted (l : LineId) (s : State) : State := (s.modPulse l takeCounts).modKept l (keptCounted l s)

@[simp] theorem tickCounted_lineState (l : LineId) (s : State) : (tickCounted l s).lineState l = s.lineState l := by
  cases l <;> rfl

theorem tickCounted_ctx (l : LineId) (s : State) :
    (tickCounted l s).ctx l =
      if s.lineState l = .closing then s.ctx l else (s.ctx l).map (countedErrors (s.pulse.get l).errors) := by
  cases l <;> rfl

theorem compartmentsLeft_of_outside {l : LineId} {s : State}
    (h : s.lineState l = .idle ∨ s.lineState l = .armed ∨ s.lineState l = .closing) :
    compartmentsLeft l s = s.compartments := by
  unfold compartmentsLeft
  split
  · rfl
  · exact if_pos h

/-- In IDLE, ARMED and CLOSING the gross increment joins the unattended accumulator (R36). -/
theorem route_of_outside {l : LineId} {s : State} (n : Int) (r : Nat)
    (h : s.lineState l = .idle ∨ s.lineState l = .armed ∨ s.lineState l = .closing) :
    route l n r (tickConversion s l (netPulses (s.pulse.get l)) (s.pulse.get l).flow) (tickCounted l s) =
      tickLeft l s := by
  have hroutes : ((tickCounted l s).lineState l).routes = false := by
    rw [tickCounted_lineState]
    exact (LineState.routes_eq_false_iff _).mpr h
  rw [route, hroutes, if_neg Bool.false_ne_true, tickCounted, State.modKept_modKept, tickLeft,
    compartmentsLeft_of_outside h]
  refine State.modKept_congr (s := s.modPulse l takeCounts) ?_
  simp only [keptLeft, keptCounted, addTotals, if_pos h]
  rfl

theorem tickCounted_line (l : LineId) (s : State) :
    (tickCounted l s).line.get l = { s.line.get l with kept := keptCounted l s (s.line.get l).kept } := by
  cases l <;> rfl

/-- In every other state the increments join the delivery, and its compartment is drawn (R35, R49). -/
theorem route_of_routes {l : LineId} {s : State}
    (h : ¬(s.lineState l = .idle ∨ s.lineState l = .armed ∨ s.lineState l = .closing)) :
    route l (netPulses (s.pulse.get l)) (s.pulse.get l).reverse
      (tickConversion s l (netPulses (s.pulse.get l)) (s.pulse.get l).flow) (tickCounted l s) = tickLeft l s := by
  have hroutes : ((tickCounted l s).lineState l).routes = true := by
    rw [tickCounted_lineState, ← Bool.not_eq_false, LineState.routes_eq_false_iff]
    exact h
  have hclosing : s.lineState l ≠ .closing := fun e => h (.inr (.inr e))
  have hclosing' : (s.line.get l).kept.state ≠ .closing := hclosing
  have hctx := tickCounted_ctx l s
  rw [if_neg hclosing] at hctx
  rw [route, hroutes, if_pos rfl, routeToDelivery, hctx, tickLeft, compartmentsLeft]
  cases hd : s.ctx l with
  | none =>
    have hk : (s.line.get l).kept.ctx = none := hd
    refine State.modKept_congr (s := s.modPulse l takeCounts) ?_
    simp only [keptLeft, keptCounted, addTotals, if_neg h, if_neg hclosing, State.modPulse_line, if_neg hclosing', hk,
      Option.map_none]
  | some d =>
    have hk : (s.line.get l).kept.ctx = some d := hd
    simp only [Option.map_some, if_neg h, tickCounted_line]
    refine congrArg (fun u => State.modCompartment u d.compartment _) ((State.modKept_modKept ..).trans
      (State.modKept_congr (g := keptLeft l s) ?_))
    simp only [keptLeft, keptCounted, addTotals, if_neg h, if_neg hclosing, State.modPulse_line, if_neg hclosing', hk,
      Option.map_some, routedDelivery]
    rw [tickCounted, tickClamps_keptCounted]
    rfl

/-- Steps 1 to 6 of a tick, and step 7 on what they leave (R20). -/
theorem tick_eq (l : LineId) (s : State) : tick l s = evaluate l (tickLeft l s) := by
  refine (tick_eq_route l s).trans (congrArg (evaluate l) ?_)
  by_cases h : s.lineState l = .idle ∨ s.lineState l = .armed ∨ s.lineState l = .closing
  · exact route_of_outside _ _ h
  · exact route_of_routes h

end Sys2Proof.Machine

namespace Sys2Proof.Machine

/-! ### What step 7 leaves -/

/-- A delivery without what a stop decides. -/
def Delivery.measured (d : Delivery) : Delivery := { d with stopCause := none, stopTarget := none, faults := 0 }

/-- `t` is `s` but for what a stop of line `l` decides: the line's state, its stop cause, target and fault set, its timers
and valve, and its settings. -/
structure StopChange (l : LineId) (s t : State) : Prop where
  kept : (t.line.get l).kept = { (s.line.get l).kept with state := t.lineState l, ctx := t.ctx l }
  measured : (t.ctx l).map Delivery.measured = (s.ctx l).map Delivery.measured
  nextTick : (t.line.get l).nextTick = (s.line.get l).nextTick
  line : ∀ o, o ≠ l → t.line.get o = s.line.get o
  valve : ∀ o, o ≠ l → t.valve.get o = s.valve.get o
  settings : ∀ o, o ≠ l → t.settings.lines.get o = s.settings.lines.get o

section
variable {l : LineId} {s t u : State}

theorem StopChange.refl (l : LineId) (s : State) : StopChange l s s :=
  ⟨rfl, rfl, rfl, fun _ _ => rfl, fun _ _ => rfl, fun _ _ => rfl⟩

theorem StopChange.trans (h : StopChange l s t) (h' : StopChange l t u) : StopChange l s u where
  kept := by rw [h'.kept, h.kept]
  measured := h'.measured.trans h.measured
  nextTick := h'.nextTick.trans h.nextTick
  line o ho := (h'.line o ho).trans (h.line o ho)
  valve o ho := (h'.valve o ho).trans (h.valve o ho)
  settings o ho := (h'.settings o ho).trans (h.settings o ho)

/-- A change of the line's volatile items, or of its state. -/
theorem stopChange_modLine (h : StopChange l s t) {f : Line → Line}
    (hk : ∀ ln, (f ln).kept = { ln.kept with state := (f ln).kept.state } := by exact fun _ => rfl)
    (hn : ∀ ln, (f ln).nextTick = ln.nextTick := by exact fun _ => rfl) : StopChange l s (t.modLine l f) := by
  have hline : (t.modLine l f).line.get l = f (t.line.get l) := PerLine.get_set_same ..
  have hctx : (t.modLine l f).ctx l = t.ctx l := by rw [State.ctx, hline, hk]; rfl
  refine h.trans ⟨?_, by rw [hctx], by rw [hline, hn], fun _ ho => PerLine.get_set_other _ _ _ _ ho, fun _ _ => rfl,
    fun _ _ => rfl⟩
  rw [hctx, State.lineState, hline, hk]
  rfl

/-- A change of what a stop decides in the delivery. -/
theorem stopChange_modCtx (h : StopChange l s t) {f : Delivery → Delivery}
    (hf : ∀ d, (f d).measured = d.measured := by exact fun _ => rfl) : StopChange l s (t.modCtx l f) := by
  have hline : ((t.modCtx l f).line.get l) =
      { t.line.get l with kept := { (t.line.get l).kept with ctx := (t.ctx l).map f } } := PerLine.get_set_same ..
  refine h.trans ⟨?_, ?_, by rw [hline], fun _ ho => PerLine.get_set_other _ _ _ _ ho, fun _ _ => rfl, fun _ _ => rfl⟩
  · rw [State.lineState, State.ctx, hline]
  · rw [State.ctx, hline, Option.map_map]
    exact congrArg (fun g => Option.map g (t.ctx l)) (funext hf)

theorem stopChange_issueStage (h : StopChange l s t) (st : Stage) : StopChange l s (issueStage l st t) :=
  h.trans { StopChange.refl l t with valve := fun _ ho => PerLine.get_set_other _ _ _ _ ho }

theorem stopChange_raiseLineStatus (h : StopChange l s t) : StopChange l s (raiseLineStatus l t) := { h with }

theorem stopChange_askStage (h : StopChange l s t) : StopChange l s (askStage l t) := by
  unfold askStage
  split
  · exact h
  · exact stopChange_issueStage h _

theorem stopChange_enterState (h : StopChange l s t) (st : LineState) : StopChange l s (enterState l st t) := by
  unfold enterState
  exact stopChange_askStage (stopChange_raiseLineStatus (stopChange_modLine h))

theorem stopChange_enterStopping (h : StopChange l s t) (causes : List StopCause) :
    StopChange l s (enterStopping l causes t) := by
  unfold enterStopping
  exact stopChange_enterState (stopChange_modLine (stopChange_modCtx h)) _

theorem stopChange_enterSuspended (h : StopChange l s t) (causes : List StopCause) :
    StopChange l s (enterSuspended l causes t) := by
  unfold enterSuspended
  exact stopChange_enterState (stopChange_modCtx h) _

theorem stopChange_adaptCloseAhead (h : StopChange l s t) : StopChange l s (adaptCloseAhead l t) := by
  unfold adaptCloseAhead
  split
  · exact h
  · split
    · exact h.trans { StopChange.refl l t with settings := fun _ ho => PerLine.get_set_other _ _ _ _ ho }
    · exact h

theorem stopChange_completeStopping (h : StopChange l s t) : StopChange l s (completeStopping l t) := by
  unfold completeStopping
  split
  · split
    · exact h
    · exact stopChange_enterState (stopChange_modLine (stopChange_adaptCloseAhead h)) _
  · exact h

theorem stopChange_thresholdTest (h : StopChange l s t) (d : Delivery) : StopChange l s (thresholdTest l d t) := by
  unfold thresholdTest
  split
  · split
    · exact stopChange_enterState h _
    · split
      · exact stopChange_raiseLineStatus (stopChange_issueStage h _)
      · exact h
  · exact h

theorem stopChange_noFlowTest (h : StopChange l s t) : StopChange l s (noFlowTest l t) := by
  unfold noFlowTest
  split
  · split
    · exact stopChange_modLine h
    · exact h
  · exact stopChange_modLine h

theorem stopChange_flowingTest (h : StopChange l s t) (d : Delivery) : StopChange l s (flowingTest l d t) := by
  unfold flowingTest
  split
  · exact stopChange_noFlowTest (stopChange_thresholdTest h d)
  · exact stopChange_enterStopping h _

theorem stopChange_faultTest (h : StopChange l s t) (faults : List StopCause) :
    StopChange l s (faultTest l faults t) := by
  unfold faultTest
  split
  · exact h
  · split
    · exact stopChange_enterStopping h _
    · exact stopChange_modCtx h
    · exact stopChange_enterSuspended h _
    · exact stopChange_enterSuspended h _
    · exact stopChange_enterSuspended h _
    · exact stopChange_modCtx h
    · exact h

/-- Step 7 of a tick is a stop change of its line. -/
theorem stopChange_evaluate (l : LineId) (s : State) : StopChange l s (evaluate l s) := by
  have h := StopChange.refl l s
  unfold evaluate
  split
  · exact h
  · apply stopChange_completeStopping
    split
    · exact stopChange_flowingTest h _
    · exact stopChange_faultTest h _

/-- The delivery that a stop change leaves, in its measures. -/
theorem StopChange.delivery (h : StopChange l s t) {d : Delivery} (hd : s.ctx l = some d) :
    ∃ e, t.ctx l = some e ∧ e.measured = d.measured := by
  have hm := h.measured
  rw [hd] at hm
  exact Option.map_eq_some_iff.mp hm

end

/-! ### A due tick -/

/-- The part at the instant of a due tick of a line, whose next tick falls 100 ms after the last deadline (entry 37). -/
def tickStart (l : LineId) (t : Micros) (s : State) : State :=
  (advanceTo t s).modLine l fun ln => { ln with nextTick := ln.nextTick + 100000 }

theorem exec_tick_of_due {l : LineId} {t : Micros} {s : State} (hrun : Running s)
    (hdue : (s.line.get l).nextTick ≤ (advanceTo t s).awake) :
    exec (.meteringTick l t) s = .next (settle s (evaluate l (tickLeft l (tickStart l t s)))) := by
  have hd : tickDue (advanceTo t s) l = true := by
    simp only [tickDue, advanceTo_power, hrun.notParked, advanceTo_line, hdue, Bool.not_false, decide_true, Bool.and_self]
  refine congrArg Host.Outcome.next ((timedEvent_of_on hrun.supplied).trans ?_)
  rw [takeTick, if_pos hd, ← tick_eq]
  rfl

theorem tickRawVcf_tickStart (l : LineId) (t : Micros) (s : State) : tickRawVcf (tickStart l t s) l = tickRawVcf s l := by
  cases l <;> exact tickRawVcf_congr rfl rfl rfl rfl rfl

@[simp] theorem tickClamps_tickStart (l : LineId) (t : Micros) (s : State) :
    tickClamps (tickStart l t s) l = tickClamps s l := by
  simp only [tickClamps, tickRawVcf_tickStart]

@[simp] theorem tickConversion_tickStart (l : LineId) (t : Micros) (s : State) (n : Int) (flow : Nat) :
    tickConversion (tickStart l t s) l n flow = tickConversion s l n flow := by
  have hvcf : tickVcf (tickStart l t s) l = tickVcf s l := by simp only [tickVcf, tickRawVcf_tickStart]
  unfold tickConversion
  rw [hvcf]
  cases l <;> rfl

/-- The line that steps 1 to 6 of a due tick leave. -/
theorem tickLeft_tickStart_line (l : LineId) (t : Micros) (s : State) :
    (tickLeft l (tickStart l t s)).line.get l =
      { s.line.get l with
        nextTick := (s.line.get l).nextTick + 100000
        kept := keptLeft l (tickStart l t s) (s.line.get l).kept } := by
  cases l <;> rfl

/-- What step 7 and the end of the event leave of the ticked line's measures. -/
theorem evaluate_tickLeft_kept (l : LineId) (t : Micros) (s : State) :
    let u := evaluate l (tickLeft l (tickStart l t s))
    (u.line.get l).kept =
      { keptLeft l (tickStart l t s) (s.line.get l).kept with state := u.lineState l, ctx := u.ctx l } := by
  have h := (stopChange_evaluate l (tickLeft l (tickStart l t s))).kept
  rwa [tickLeft_tickStart_line] at h

/-- A due tick leaves the other line as it was. -/
theorem evaluate_tickLeft_other {l o : LineId} (ho : o ≠ l) (t : Micros) (s : State) :
    let u := evaluate l (tickLeft l (tickStart l t s))
    u.line.get o = s.line.get o ∧ u.valve.get o = s.valve.get o ∧ u.settings.lines.get o = s.settings.lines.get o := by
  have h := stopChange_evaluate l (tickLeft l (tickStart l t s))
  refine ⟨(h.line o ho).trans ?_, h.valve o ho, h.settings o ho⟩
  simp [tickLeft, tickStart, PerLine.get_set_other _ _ _ _ ho]

/-- Settles O13: step 7 is a stop change of the ticked line, which keeps what steps 1 to 6 leave of the totals. -/
theorem tickConvertsPulses : Obligations.TickConvertsPulses := by
  unfold Obligations.TickConvertsPulses
  refine ⟨fun l t s hon h => exec_tick_of_rests hon h, ?_⟩
  intro l t s hrun hdue p n k m old ng nn
  have hconv : tickConversion s l (netPulses (s.pulse.get l)) (s.pulse.get l).flow =
      if k = 0 then { gross := 0, net := 0, grossRem := old.grossRem, netRem := old.netRem }
      else
        { gross := ng / (k * 1000000)
          net := nn / (k * 1000000000000)
          grossRem := ng - ng / (k * 1000000) * (k * 1000000)
          netRem := nn - nn / (k * 1000000000000) * (k * 1000000000000) } := rfl
  have hpulse : (tickStart l t s).pulse = s.pulse := rfl
  have hnext : ((evaluate l (tickLeft l (tickStart l t s))).line.get l).nextTick = (s.line.get l).nextTick + 100000 := by
    rw [(stopChange_evaluate l _).nextTick, tickLeft_tickStart_line]
  refine ⟨hconv, _, exec_tick_of_due hrun hdue, ?_⟩
  simp only [settle_pulse, settle_line, settle_valve, settle_settings, settle_journal, settle_orders, settle_cal,
    settle_lock, settle_forward, settle_port, settle_power, settle_pumpSlot, settle_journalDamage,
    evaluate_tickLeft_kept, keptLeft, hpulse, tickConversion_tickStart, hconv]
  refine ⟨evaluate_pulse .., rfl, fun hk => ?_, fun hk => ?_, hnext, fun o ho => evaluate_tickLeft_other ho t s,
    evaluate_journal .., evaluate_orders .., evaluate_cal .., evaluate_lock .., evaluate_forward .., evaluate_port ..,
    evaluate_power .., evaluate_pumpSlot .., evaluate_journalDamage ..⟩
  · rw [if_pos hk]
    exact ⟨Int.add_zero _, Int.add_zero _, rfl, rfl⟩
  · rw [if_neg hk.ne']
    exact ⟨rfl, rfl, rfl, rfl⟩

theorem routedDelivery_tickStart (l : LineId) (t : Micros) (s : State) (d : Delivery) :
    routedDelivery l (tickStart l t s) d =
      routeDelivery (tickConversion s l (netPulses (s.pulse.get l)) (s.pulse.get l).flow)
        s.cal.products[d.product].basis (s.line.get l).airFlag (s.pulse.get l).reverse (s.line.get l).temp
        (tickFlags (s.lineState l) (netPulses (s.pulse.get l)) (ageClass (advanceTo t s).awake (s.line.get l).temp)
          (tickClamps s l) (s.line.get l).airSilent d.flags)
        (countedErrors (s.pulse.get l).errors d) := by
  have hpulse : (tickStart l t s).pulse = s.pulse := rfl
  unfold routedDelivery
  dsimp only
  rw [tickConversion_tickStart, tickClamps_tickStart]
  cases l <;> rfl

/-- The state that steps 1 to 6 of a due tick leave, in the terms of the state before it. -/
theorem tickLeft_tickStart (l : LineId) (t : Micros) (s : State) :
    tickLeft l (tickStart l t s) =
      { advanceTo t s with
        pulse := s.pulse.set l (takeCounts (s.pulse.get l))
        line := s.line.set l
          { s.line.get l with
            nextTick := (s.line.get l).nextTick + 100000
            kept := keptLeft l (tickStart l t s) (s.line.get l).kept }
        compartments := compartmentsLeft l (tickStart l t s) } := by
  cases l <;> rfl

@[simp] theorem tickStart_lineState (l : LineId) (t : Micros) (s : State) :
    (tickStart l t s).lineState l = s.lineState l := by
  cases l <;> rfl

@[simp] theorem tickStart_ctx (l : LineId) (t : Micros) (s : State) : (tickStart l t s).ctx l = s.ctx l := by
  cases l <;> rfl

@[simp] theorem tickStart_pulse (l : LineId) (t : Micros) (s : State) : (tickStart l t s).pulse = s.pulse := rfl

@[simp] theorem tickStart_compartments (l : LineId) (t : Micros) (s : State) :
    (tickStart l t s).compartments = s.compartments := rfl

/-- Settles O14: steps 1 to 6 leave the state that the statement gives, and step 7 is a stop change, which keeps every
measure of the delivery. -/
theorem tickRoutesVolume : Obligations.TickRoutesVolume := by
  unfold Obligations.TickRoutesVolume
  refine ⟨fun l t s hon h => exec_tick_of_rests hon h, ?_⟩
  intro l t s hrun hdue p n c ln age increment late flagged errors routed outside v
  have hrouted : routedDelivery l (tickStart l t s) = routed := by
    funext d
    rw [routedDelivery_tickStart, tickFlags, LineState.holds_eq]
    rfl
  have hv : tickLeft l (tickStart l t s) = v := by
    simp only [tickLeft_tickStart, keptLeft, compartmentsLeft, tickStart_lineState, tickStart_ctx, tickStart_pulse,
      tickStart_compartments, tickConversion_tickStart, hrouted]
    rfl
  have htick : tick l (tickStart l t s) = evaluate l v := (tick_eq l _).trans (congrArg (evaluate l) hv)
  have hcomp : (settle s (evaluate l (tickLeft l (tickStart l t s)))).compartments =
      compartmentsLeft l (tickStart l t s) := by
    rw [settle_compartments, evaluate_compartments]
    rfl
  have hunatt : ((settle s (evaluate l (tickLeft l (tickStart l t s)))).line.get l).kept.unattended =
      if outside then ln.kept.unattended + c.gross else ln.kept.unattended := by
    rw [settle_line, evaluate_tickLeft_kept]
    simp only [keptLeft, tickStart_lineState, tickStart_pulse, tickConversion_tickStart]
    rfl
  refine ⟨hv ▸ exec_tick_of_due hrun hdue, htick, _, exec_tick_of_due hrun hdue, fun hout => ?_, fun d hd hin => ?_⟩
  · rw [hunatt, hcomp, if_pos hout, compartmentsLeft_of_outside (by rwa [tickStart_lineState])]
    exact ⟨rfl, rfl⟩
  · have hnot : ¬outside := by
      rintro (h | h | h)
      exacts [hin.1 h, hin.2.1 h, hin.2.2 h]
    have hleft : (tickLeft l (tickStart l t s)).ctx l = some (routed d) := by
      have hd' : (s.line.get l).kept.ctx = some d := hd
      rw [State.ctx, tickLeft_tickStart_line]
      simp only [keptLeft, tickStart_lineState, if_neg hin.2.2, hd', hrouted, Option.map_some]
      exact if_neg hnot
    obtain ⟨e, he, hm⟩ := (stopChange_evaluate l _).delivery hleft
    have hbilled : e.billed = if ln.airFlag = true then d.billed else d.billed + increment d :=
      congrArg Delivery.billed hm
    have hunbilled : e.unbilled = if ln.airFlag = true then d.unbilled + increment d else d.unbilled :=
      congrArg Delivery.unbilled hm
    have hreverse : e.reversePulses = (routed d).reversePulses := (congrArg Delivery.reversePulses hm :)
    have hsum : e.sumTG = (routed d).sumTG := (congrArg Delivery.sumTG hm :)
    have htemp : e.tempGross = (routed d).tempGross := (congrArg Delivery.tempGross hm :)
    have hgrossBasis : s.cal.products[d.product].basis = .gross → increment d = c.gross := fun hb => by
      simp only [increment, hb]
    have hnetBasis : s.cal.products[d.product].basis = .net → increment d = c.net := fun hb => by
      simp only [increment, hb]
    refine ⟨hunatt.trans (if_neg hnot), hcomp.trans ?_, e, ?_, congrArg Delivery.gross hm, congrArg Delivery.net hm,
      fun hair => ?_, fun hair => ?_, fun hr => ?_, congrArg Delivery.integrityErrors hm, fun hx => ?_, fun x hx => ?_,
      congrArg Delivery.flags hm⟩
    · simp only [compartmentsLeft, tickStart_lineState, tickStart_ctx, tickStart_pulse, tickStart_compartments,
        tickConversion_tickStart, hd]
      exact if_neg hnot
    · rw [State.ctx, settle_line]
      exact he
    · rw [hair, if_neg Bool.false_ne_true] at hbilled hunbilled
      exact ⟨fun hb => hgrossBasis hb ▸ hbilled, fun hb => hnetBasis hb ▸ hbilled, hunbilled⟩
    · rw [hair, if_pos rfl] at hbilled hunbilled
      exact ⟨fun hb => hgrossBasis hb ▸ hunbilled, fun hb => hnetBasis hb ▸ hunbilled, hbilled⟩
    · rw [hreverse]
      exact if_pos hr
    · rw [hsum, htemp]
      simp only [routed, hx, and_self]
    · rw [hsum, htemp]
      simp only [routed, hx, and_self]

end Sys2Proof.Machine

namespace Sys2Proof.Machine

/-! ## Power-on, park and restart (R14, R16, R115, R134 to R136, R150, R196 to R200) -/

/-! ### The check of the newest CALIBRATION record, and the rewrites -/

/-- The state with another clock. -/
def State.withClock (c : Clock) (s : State) : State := { s with clock := c }

/-- What the steps of power-on after the repair of the journal leave as it is: all but the calibration set, the lock, the
journal, and what an item's change brings to its line and valve. -/
structure RestoreKeeps (s t : State) : Prop where
  power : t.power = s.power
  reports : t.reports = s.reports
  settings : t.settings = s.settings
  port : t.port = s.port
  lineState : ∀ l, t.lineState l = s.lineState l

theorem RestoreKeeps.refl (s : State) : RestoreKeeps s s := ⟨rfl, rfl, rfl, rfl, fun _ => rfl⟩

theorem RestoreKeeps.trans {s t u : State} (h : RestoreKeeps s t) (h' : RestoreKeeps t u) : RestoreKeeps s u :=
  ⟨h'.power.trans h.power, h'.reports.trans h.reports, h'.settings.trans h.settings, h'.port.trans h.port,
    fun l => (h'.lineState l).trans (h.lineState l)⟩

theorem restoreKeeps_itemEffect (sel : ItemSel) (s : State) : RestoreKeeps s (itemEffect sel s) := by
  unfold itemEffect
  split
  · exact ⟨rfl, rfl, rfl, rfl, fun m => by
      simp only [State.lineState, State.modKept_line, PerLine.get_set]
      split <;> simp [*]⟩
  · exact ⟨rfl, rfl, rfl, rfl, fun _ => rfl⟩
  · exact .refl s

theorem restoreKeeps_applyRecord (level : Bool) (r : CalibrationRecord) (s : State) :
    RestoreKeeps s (applyRecord level r s) := by
  unfold applyRecord
  dsimp only
  split
  · next sel _ => exact { restoreKeeps_itemEffect sel { s with cal := setItem s.cal sel r.newValue } with }
  · exact ⟨rfl, rfl, rfl, rfl, fun _ => rfl⟩
  · exact ⟨rfl, rfl, rfl, rfl, fun _ => rfl⟩

theorem restoreKeeps_checkNewestCalibration (s : State) : RestoreKeeps s (checkNewestCalibration s) := by
  unfold checkNewestCalibration checkRecord
  split
  · exact .refl s
  · split
    · exact ⟨rfl, rfl, rfl, rfl, fun _ => rfl⟩
    · split
      · split
        · exact restoreKeeps_applyRecord _ _ s
        · exact .refl s
      · exact .refl s

theorem restoreKeeps_requestRewrites (s : State) : RestoreKeeps s (requestRewrites s) := by
  rw [requestRewrites, requestRewrite_eq, requestRewrite_eq]
  exact ⟨rfl, rfl, rfl, rfl, fun _ => rfl⟩

theorem restoreKeeps_restore (keep : Bool) (s : State) : RestoreKeeps (restoreVolatile keep s) (restore keep s) :=
  have hj : RestoreKeeps (restoreVolatile keep s) (repairJournal (restoreVolatile keep s)) :=
    ⟨rfl, rfl, rfl, rfl, fun _ => rfl⟩
  have hl : ∀ q, RestoreKeeps q (restoreLock q) := fun _ => ⟨rfl, rfl, rfl, rfl, fun _ => rfl⟩
  ((hj.trans (restoreKeeps_checkNewestCalibration _)).trans (hl _)).trans (restoreKeeps_requestRewrites _)

/-! ### A standing POWER_FAIL -/

/-- Holdup entered by a part whose lines all rest: CLOSE to both valves, and a pump stop (R112, R194). -/
def heldUp (s : State) : State :=
  let s := closeBothValves .powerLoss s
  { s with power := { s.power with holdup := true }, port := { s.port with pendingReset := none } }

/-- A cause that reaches a restored line does nothing. -/
theorem stopOn_of_restored {l : LineId} {s : State} {st : LineState} (h : s.lineState l = restoredState st)
    (c : StopCause) : stopOn l c s = s := by
  unfold stopOn
  rw [h]
  cases st <;> rfl

/-- A restored line comes up in IDLE, ARMED, CLOSING or INTERRUPTED (R197). -/
theorem restore_lineState (keep : Bool) (s : State) (l : LineId) :
    (restore keep s).lineState l = restoredState (s.store.get l).state := by
  rw [(restoreKeeps_restore keep s).lineState]
  cases l <;> rfl

/-- Power-on, with holdup entered where POWER_FAIL stands (R196). -/
theorem runPowerOn_eq (keep : Bool) (s : State) :
    runPowerOn keep s = if s.power.failPin then heldUp (restore keep s) else restore keep s := by
  have hpin : (restore keep s).power.failPin = s.power.failPin := by rw [(restoreKeeps_restore keep s).power]; rfl
  have h1 := stopOn_of_restored (restore_lineState keep s .line1) .powerLoss
  have h2 := stopOn_of_restored (restore_lineState keep s .line2) .powerLoss
  simp only [runPowerOn, hpin, enterHoldup, h1, h2]
  rfl

/-- With the device status request raised, the end of an event writes the line context store and no more. -/
theorem settle_of_device {after : State} (h : after.reports.device = true) (before : State) :
    settle before after = { after with store := copies after } := by
  have hr : ({ after.reports with device := true } : Reports) = after.reports := by rw [← h]
  unfold settle raiseDeviceStatus
  dsimp only
  rw [hr]
  split <;> rfl

/-- Power-on raises the device status request (R191). -/
theorem runPowerOn_device (keep : Bool) (s : State) : (runPowerOn keep s).reports.device = true := by
  have h : (restore keep s).reports.device = true := by rw [(restoreKeeps_restore keep s).reports]; rfl
  rw [runPowerOn_eq]
  split <;> exact h

theorem settle_runPowerOn (keep : Bool) (before s : State) :
    settle before (runPowerOn keep s) = { runPowerOn keep s with store := copies (runPowerOn keep s) } :=
  settle_of_device (runPowerOn_device keep s) before

/-! ### The clock of a RESTART (R200) -/

theorem applyRecord_withClock (c : Clock) (level : Bool) (r : CalibrationRecord) (s : State) :
    applyRecord level r (s.withClock c) = (applyRecord level r s).withClock c := by
  unfold applyRecord
  rcases r.item with sel | which | _
  · cases sel <;> rfl
  · rfl
  · rfl

theorem checkNewestCalibration_withClock (c : Clock) (s : State) :
    checkNewestCalibration (s.withClock c) = (checkNewestCalibration s).withClock c := by
  have hj : newestCalibration (s.withClock c).journal = newestCalibration s.journal := rfl
  have hc : (s.withClock c).cal = s.cal := rfl
  unfold checkNewestCalibration checkRecord rollForward
  rw [hj]
  split
  · rfl
  · split
    · rfl
    · split
      · rw [hc]
        split
        · exact applyRecord_withClock ..
        · rfl
      · rfl

theorem requestRewrites_withClock (c : Clock) (s : State) :
    requestRewrites (s.withClock c) = (requestRewrites s).withClock c := by
  simp only [requestRewrites, requestRewrite_eq]
  rfl

/-- A restart is a power-on that keeps the clock. -/
theorem runPowerOn_keep (s : State) : runPowerOn true s = (runPowerOn false s).withClock s.clock := by
  have hv : repairJournal (restoreVolatile true s) = (repairJournal (restoreVolatile false s)).withClock s.clock := rfl
  have hl : ∀ q : State, restoreLock (q.withClock s.clock) = (restoreLock q).withClock s.clock := fun _ => rfl
  have hr : restore true s = (restore false s).withClock s.clock := by
    rw [restore, hv, checkNewestCalibration_withClock, hl, requestRewrites_withClock]
    rfl
  rw [runPowerOn_eq, runPowerOn_eq, hr]
  split <;> rfl

/-- A restart leaves what a power-on leaves, but for the clock. -/
theorem settle_runPowerOn_keep (before s : State) :
    settle before (runPowerOn true s) = (settle s (runPowerOn false s)).withClock s.clock := by
  rw [settle_runPowerOn, settle_runPowerOn, runPowerOn_keep]
  rfl

/-! ### PARK and RESTART -/

theorem bothIdle_iff (s : State) : bothIdle s = true ↔ s.lineState .line1 = .idle ∧ s.lineState .line2 = .idle := by
  simp [bothIdle]

/-- A count or a flow rate of a pulse input is not 0 (R14). -/
theorem inputActive_eq_false_iff (p : PulseInput) :
    inputActive p = false ↔ p.flow = 0 ∧ p.forward = 0 ∧ p.reverse = 0 := by
  simp [inputActive, and_assoc]

theorem wakePending_eq_false_iff (s : State) :
    wakePending s = false ↔
      ∀ l : LineId, (s.pulse.get l).flow = 0 ∧ (s.pulse.get l).forward = 0 ∧ (s.pulse.get l).reverse = 0 := by
  simp only [wakePending, Bool.or_eq_false_iff, inputActive_eq_false_iff]
  constructor
  · rintro ⟨h1, h2⟩ (_ | _)
    · exact h1
    · exact h2
  · exact fun h => ⟨h .line1, h .line2⟩

/-- The response to PARK in the ready port (R198). -/
theorem exec_park_of_ready {s : State} (h : PortReady s) (tag : Nat) :
    exec (.park tag) s = .next (settle s (
      if ¬bothIdle s then replied 0x66 tag .state [] s
      else if wakePending s then replied 0x66 tag .wakePending [] s
      else replied 0x66 tag .ok [] (setPending .park s))) := by
  refine congrArg Host.Outcome.next ((takeCommand_of_ready h tag .park).trans (congrArg (settle s) ?_))
  simp only [runCommand, ownerPark]
  cases bothIdle s <;> cases wakePending s <;> rfl

/-- The response to RESTART in the ready port (R200). -/
theorem exec_restart_of_ready {s : State} (h : PortReady s) (tag : Nat) :
    exec (.restart tag) s = .next (settle s (
      if ¬bothIdle s then replied 0x67 tag .state [] s
      else replied 0x67 tag .ok [] (setPending .restart (emptySlots s)))) := by
  refine congrArg Host.Outcome.next ((takeCommand_of_ready h tag .restart).trans (congrArg (settle s) ?_))
  simp only [runCommand, ownerRestart]
  cases bothIdle s <;> rfl

/-- The cab port takes a waiting response with what it performs (R172, R198, R200). -/
theorem exec_cabPortTake_of_response {s : State} {r : Response} {rest : List Response} (hon : s.power.on = true)
    (hpark : s.power.parked = false) (hwake : s.power.wakeDelay = none) (htx : s.forward.txCab = none)
    (hlink : s.forward.cabOff = false) (hr : s.port.responses = r :: rest) :
    exec .cabPortTake s = .next (settle s
      (sendCab r.frame false r.performs { s with port := { s.port with responses := rest } })) := by
  refine congrArg Host.Outcome.next ((event_of_on hon).trans (congrArg (settle s) ?_))
  simp [takeCabPort, cabPortFree, portsRun, hpark, hwake, htx, hlink, hr]

/-- The departure of a response that performs a request (R171, R198, R200). -/
theorem exec_completion_of_performs {s : State} {t : Transmission} {k : ResetKind} (hon : s.power.on = true)
    (hlink : s.forward.cabOff = false) (htx : s.forward.txCab = some t) (hf : t.forwarded = false)
    (hk : t.performs = some k) :
    exec (.transmissionCompletion .cab) s = .next (settle s
      (performReset k { s with forward := { s.forward with txCab := none } })) := by
  refine congrArg Host.Outcome.next ((event_of_on hon).trans (congrArg (settle s) ?_))
  simp [takeTransmission, hlink, htx, performCompletion, countForwarded, hf, hk]

/-- A response performs nothing once its request no longer stands (R194). -/
theorem performReset_of_abandoned {k : ResetKind} {s : State} (h : s.port.pendingReset ≠ some k) :
    performReset k s = s := by
  unfold performReset
  exact if_neg h

/-- A standing request is performed (R198, R200). -/
theorem performReset_of_standing {k : ResetKind} {s : State} (h : s.port.pendingReset = some k) :
    performReset k s = (match k with | .park => performPark s | .restart => performRestart s) := by
  unfold performReset
  cases k <;> exact if_pos h

/-- Step 7 does nothing at an IDLE line. -/
theorem evaluate_of_idle {l : LineId} {s : State} (h : s.lineState l = .idle) : evaluate l s = s := by
  have hf : ∀ faults, faultTest l faults s = s := fun faults => by simp [faultTest, h]
  unfold evaluate
  split
  · rfl
  · simp [h, LineState.flows, hf, completeStopping]

/-- The final ticks of IDLE lines leave the stored settings (R16, R20). -/
theorem finalTicks_storedSettings {s : State} (h1 : s.lineState .line1 = .idle) (h2 : s.lineState .line2 = .idle) :
    (tick .line2 (tick .line1 s)).storedSettings = s.storedSettings := by
  rw [tick_eq .line1, evaluate_of_idle (by exact h1), tick_eq .line2, evaluate_of_idle (by exact h2)]
  rfl

/-- What power-on leaves of the lock's volatile part, the settings and the port (R151, R182, R196). -/
theorem runPowerOn_volatile (keep : Bool) (s : State) :
    (runPowerOn keep s).lock.attempts = 5 ∧ (runPowerOn keep s).lock.frozen = false ∧
      (runPowerOn keep s).settings = s.storedSettings ∧ (runPowerOn keep s).port.pendingReset = none := by
  have hk := restoreKeeps_restore keep s
  have hlock : (restore keep s).lock.attempts = 5 ∧ (restore keep s).lock.frozen = false := by
    rw [restore, requestRewrites, requestRewrite_eq, requestRewrite_eq]
    exact ⟨rfl, rfl⟩
  have hset : (restore keep s).settings = s.storedSettings := hk.settings
  have hport : (restore keep s).port.pendingReset = none := by rw [hk.port]; rfl
  rw [runPowerOn_eq]
  generalize restore keep s = r at hlock hset hport
  split
  · exact ⟨hlock.1, hlock.2, hset, rfl⟩
  · exact ⟨hlock.1, hlock.2, hset, hport⟩

/-- Settles O54: the answers follow from the two checks, and the departure of the answer performs what still stands; a
RESTART is the power-on of the part after its final ticks, with the clock put back. -/
theorem parkAndRestart : Obligations.ParkAndRestart := by
  unfold Obligations.ParkAndRestart
  intro s idle quiet
  have hquiet : wakePending s = false ↔ quiet := wakePending_eq_false_iff s
  refine ⟨⟨rfl, rfl, fun code h66 h67 => by simp [performsOf, h66, h67], fun code st h => by simp [performsOf, h]⟩,
    ?_, fun tag hready => ?_, ?_⟩
  · intro r rest hon hpark hwake htx hlink hr
    exact ⟨_, exec_cabPortTake_of_response hon hpark hwake htx hlink hr, by rw [settle_forward]; rfl⟩
  · intro park restart
    have hpark := exec_park_of_ready hready tag
    have hrestart := exec_restart_of_ready hready tag
    refine ⟨fun hidle => ?_, fun hidle hq => ?_, fun hidle hq => ?_, fun hidle => ?_⟩
    · rw [if_pos (mt (bothIdle_iff s).mp hidle)] at hpark hrestart
      exact ⟨hpark, hrestart⟩
    · rw [if_neg (not_not.mpr ((bothIdle_iff s).mpr hidle)), if_pos (Bool.of_not_eq_false (mt hquiet.mp hq))] at hpark
      exact hpark
    · rw [if_neg (not_not.mpr ((bothIdle_iff s).mpr hidle)), hquiet.mpr hq] at hpark
      exact hpark
    · rw [if_neg (not_not.mpr ((bothIdle_iff s).mpr hidle))] at hrestart
      exact hrestart
  · intro t k hon hlink htx hf hk result sent ended ticked
    have hresult : result = .next (settle s (performReset k sent)) := exec_completion_of_performs hon hlink htx hf hk
    refine ⟨fun hne => ?_, fun hp hkp hq => ?_, fun hp hkp hq => ?_, fun hp hkr hidle => ?_⟩
    · have hgone : sent.port.pendingReset ≠ some k := hne
      rw [hresult, performReset_of_abandoned hgone]
    · subst hkp
      have hstands : sent.port.pendingReset = some .park := hp
      have hwake : wakePending sent = true := Bool.of_not_eq_false (mt hquiet.mp hq)
      rw [hresult, performReset_of_standing hstands, performPark, if_pos hwake]
      rfl
    · subst hkp
      have hstands : sent.port.pendingReset = some .park := hp
      have hwake : ¬wakePending sent = true := Bool.not_eq_true _ ▸ hquiet.mpr hq
      rw [hresult, performReset_of_standing hstands, performPark, if_neg hwake]
      rfl
    · subst hkr
      have hstands : sent.port.pendingReset = some .restart := hp
      have hclock : ticked.clock = s.clock := by simp [ticked, sent]
      obtain ⟨hatt, hfrozen, hset, hpend⟩ := runPowerOn_volatile true { ticked with store := copies ticked }
      have hpower : result = .next (settle s (runPowerOn true { ticked with store := copies ticked })) := by
        rw [hresult, performReset_of_standing hstands]
        rfl
      have hkeep := settle_runPowerOn_keep s { ticked with store := copies ticked }
      refine ⟨_, _, hpower, hpower, rfl, hkeep.trans (congrArg (State.withClock · _) hclock), ?_, ?_, ?_, ?_, ?_⟩
      · rw [hkeep]
        exact hclock
      · rwa [settle_lock]
      · rwa [settle_lock]
      · rw [settle_settings, hset]
        exact finalTicks_storedSettings (s := sent) hidle.1 hidle.2
      · rwa [settle_port]

end Sys2Proof.Machine

namespace Sys2Proof.Machine

/-! ### The newest CALIBRATION record (R135) -/

/-- There is a newest CALIBRATION record exactly where there is a CALIBRATION record. -/
theorem newestCalibration_eq_none_iff (j : Journal) :
    newestCalibration j = none ↔ (j.records.filter fun r => decide (r.kind = .calibration)) = [] := by
  unfold newestCalibration
  generalize j.records.filter _ = records
  dsimp only
  cases hq : (records.map (·.sequence)).max? with
  | none => simpa using hq
  | some q =>
    obtain ⟨r, hr, hrq⟩ := List.mem_map.mp (List.max?_mem hq)
    have hfound : records.find? (fun r => decide (r.sequence = q)) ≠ none := fun h =>
      List.find?_eq_none.mp h r hr (decide_eq_true hrq)
    simp only [Option.bind_some, hfound, List.ne_nil_of_mem hr]

/-- The newest CALIBRATION record is a CALIBRATION record of the greatest number. -/
theorem newestCalibration_greatest {j : Journal} {r : JournalRecord} (h : newestCalibration j = some r) :
    r ∈ (j.records.filter fun r => decide (r.kind = .calibration)) ∧
      ∀ x ∈ j.records.filter fun r => decide (r.kind = .calibration), x.sequence ≤ r.sequence := by
  obtain ⟨hmem, hkind, hmax⟩ := newestCalibration_some h
  refine ⟨List.mem_filter.mpr ⟨hmem, decide_eq_true hkind⟩, fun x hx => ?_⟩
  obtain ⟨hxmem, hxkind⟩ := List.mem_filter.mp hx
  exact hmax x hxmem (of_decide_eq_true hxkind)

/-- A CALIBRATION record of the greatest number, where no other has that number, is the newest. -/
theorem newestCalibration_eq_some {j : Journal} {r : JournalRecord}
    (hr : r ∈ j.records.filter fun r => decide (r.kind = .calibration))
    (hmax : ∀ x ∈ j.records.filter fun r => decide (r.kind = .calibration), x.sequence ≤ r.sequence)
    (huniq : ∀ x ∈ j.records.filter fun r => decide (r.kind = .calibration), x.sequence = r.sequence → x = r) :
    newestCalibration j = some r := by
  cases hn : newestCalibration j with
  | none => simp [(newestCalibration_eq_none_iff j).mp hn] at hr
  | some x =>
    obtain ⟨hx, hxmax⟩ := newestCalibration_greatest hn
    rw [huniq x hx (Nat.le_antisymm (hmax x hx) (hxmax r hr))]

/-! ### What the bits of a CALIBRATION record spell (R124, R192; entry 34) -/

/-- The codes of a record's item name it (R124). -/
def namesItem (scope kind band : Nat) : RecordItem → Prop
  | .item sel => selectorOf scope kind band = some sel
  | .credential .inspector => scope = 0 ∧ kind = 15
  | .credential .fleet => scope = 0 ∧ kind = 16
  | .lock => scope = 0 ∧ kind = 17

/-- The GLOBAL kinds of the credentials and the lock are no kind of a calibration item (R138). -/
theorem selectorOf_global {kind : Nat} (h : kind ≠ 9) (band : Nat) : selectorOf 0 kind band = none := if_neg h

/-- The codes name the item that they spell, and no other. -/
theorem recordItemOf_eq_some_iff (scope kind band : Nat) (item : RecordItem) :
    recordItemOf scope kind band = some item ↔ namesItem scope kind band item := by
  unfold recordItemOf
  cases hs : selectorOf scope kind band with
  | some sel =>
    have hglobal : ∀ n, n ≠ 9 → ¬(scope = 0 ∧ kind = n) := by
      rintro n hn ⟨rfl, rfl⟩
      simp [selectorOf_global hn] at hs
    rcases item with _ | (_ | _) | _ <;> simp [namesItem, hs, hglobal]
  | none =>
    dsimp only
    split
    · rcases item with _ | (_ | _) | _ <;> simp [namesItem, hs]
    · rcases item with _ | (_ | _) | _ <;> simp [namesItem, hs]
    · rcases item with _ | (_ | _) | _ <;> simp [namesItem, hs]
    · next h15 h16 h17 =>
      rcases item with _ | (_ | _) | _
      · simp [namesItem, hs]
      · exact ⟨nofun, fun h => (h16 h.1 h.2).elim⟩
      · exact ⟨nofun, fun h => (h15 h.1 h.2).elim⟩
      · exact ⟨nofun, fun h => (h17 h.1 h.2).elim⟩

theorem credentialOfCode_eq (n : Nat) :
    CredentialKind.ofCode n = if n = 1 then some .fleet else if n = 2 then some .inspector else none := by
  unfold CredentialKind.ofCode
  split <;> simp_all

/-- Bits whose codes name an item spell a record of that item. -/
theorem calibrationOf_changed_of_names {f : RawFields} {item : RecordItem}
    (h : recordItemOf (f.first.extractLsb' 64 8).toNat (f.first.extractLsb' 72 8).toNat
      (f.first.extractLsb' 80 8).toNat = some item) :
    calibrationOf (.changed f) = some
      { newCount := (f.first.extractLsb' 0 32).toNat
        time := if f.mask.getLsbD 0 then some (f.first.extractLsb' 32 32).toNat else none
        item := item
        oldValue := calValueOf item (f.second.extractLsb' 0 64)
        newValue := calValueOf item (f.second.extractLsb' 64 64)
        credential := CredentialKind.ofCode (f.first.extractLsb' 88 8).toNat } :=
  congrArg (Option.map _) h

/-- Bits whose codes name no item spell no CALIBRATION record. -/
theorem calibrationOf_changed_of_unnamed {f : RawFields}
    (h : recordItemOf (f.first.extractLsb' 64 8).toNat (f.first.extractLsb' 72 8).toNat
      (f.first.extractLsb' 80 8).toNat = none) :
    calibrationOf (.changed f) = none :=
  congrArg (Option.map _) h

end Sys2Proof.Machine

namespace Sys2Proof.Machine

/-! ### The restored part (R134, R136, R197) -/

theorem restoredState_eq_idle_iff (st : LineState) : restoredState st = .idle ↔ st = .idle := by
  cases st <;> simp [restoredState]

theorem restoredState_eq_closing_iff (st : LineState) : restoredState st = .closing ↔ st = .closing := by
  cases st <;> simp [restoredState]

/-- A line as it comes up from its copy (R101, R186, R197). -/
theorem restoredLine_eq (s : State) (l : LineId) :
    restoredLine s l =
      { Line.powered (restoredCopy (s.store.get l)) s.awake with
        report :=
          if (s.store.get l).state = .idle then none
          else some (s.awake + s.storedSettings.reportInterval * 1000) } := by
  simp only [restoredLine]
  refine congrArg (fun t => { Line.powered (restoredCopy (s.store.get l)) s.awake with report := t }) ?_
  exact if_congr (restoredState_eq_idle_iff _) rfl rfl

/-- A restored copy names a reservation exactly where the stored copy does (R134). -/
theorem namesReservation_restoredCopy (k : LineCopy) : namesReservation (restoredCopy k) = namesReservation k := by
  have hst : decide ((restoredCopy k).state ≠ .idle) = decide (k.state ≠ .idle) :=
    decide_eq_decide.mpr (not_congr (restoredState_eq_idle_iff k.state))
  have hctx : (restoredCopy k).ctx.isSome = k.ctx.isSome := by
    simp only [restoredCopy]
    split
    · exact Option.isSome_map
    · rfl
  rw [namesReservation, namesReservation, hst, hctx]

/-- The rewrite that a line requests, where it is in CLOSING and its reservation has a number (R136). -/
def rewriteRequest (s : State) (l : LineId) : List JournalWrite :=
  match s.lineState l, s.ctx l, s.journal.reservations.find? (fun r => decide (r.holder = .line l)) with
  | .closing, some d, some r =>
    (match r.sequence with
     | none => []
     | some q => [{ holder := .line l, sequence := q, contents := .delivery (buildRecord s l d) }])
  | _, _, _ => []

theorem rewriteRequest_of_not_closing {s : State} {l : LineId} (h : s.lineState l ≠ .closing) :
    rewriteRequest s l = [] := by
  unfold rewriteRequest
  split
  · next heq _ _ => exact absurd heq h
  · rfl

theorem rewriteRequest_of_no_delivery {s : State} {l : LineId} (h : s.ctx l = none) : rewriteRequest s l = [] := by
  unfold rewriteRequest
  split
  · next heq _ => exact absurd (h.symm.trans heq) nofun
  · rfl

/-- What a line requests depends on its state, its delivery, its reservation and the products alone. -/
theorem rewriteRequest_congr {s t : State} {l : LineId} (hst : t.lineState l = s.lineState l) (hctx : t.ctx l = s.ctx l)
    (hres : t.journal.reservations.find? (fun r => decide (r.holder = .line l)) =
      s.journal.reservations.find? (fun r => decide (r.holder = .line l))) (hcal : t.cal = s.cal) :
    rewriteRequest t l = rewriteRequest s l := by
  have hbuild : buildRecord t l = buildRecord s l := funext fun d => by simp only [buildRecord, hcal]
  simp only [rewriteRequest, hst, hctx, hres, hbuild]

theorem requestRewrites_eq (s : State) :
    requestRewrites s =
      { s with journal := { s.journal with
          queue := s.journal.queue ++ rewriteRequest s .line1 ++ rewriteRequest s .line2 } } := by
  rw [requestRewrites, requestRewrite_eq, requestRewrite_eq]
  rfl

/-- The part as its stores stand: its lines hold what the line context store keeps. -/
def storedPart (s : State) : State :=
  { s with line := { line1 := { s.line.line1 with kept := s.store.line1 }, line2 := { s.line.line2 with kept := s.store.line2 } } }

/-- The part before step 6, where the newest CALIBRATION record changes nothing (R196). -/
def restoredPart (keep : Bool) (s : State) : State := restoreLock (repairJournal (restoreVolatile keep s))

@[simp] theorem restoredPart_line (keep : Bool) (s : State) (l : LineId) :
    (restoredPart keep s).line.get l = restoredLine s l := by
  cases l <;> rfl

@[simp] theorem storedPart_kept (s : State) (l : LineId) : ((storedPart s).line.get l).kept = s.store.get l := by
  cases l <;> rfl

/-- The reservations that the stored copies name (R134). -/
def namedReservations (s : State) : List Reservation :=
  s.journal.reservations.filter fun r =>
    match r.holder with
    | .line l => namesReservation (s.store.get l)
    | .calibration => false

/-- The repair keeps the reservations that the stored copies name (R134). -/
theorem restoredPart_reservations (keep : Bool) (s : State) :
    (restoredPart keep s).journal.reservations = namedReservations s := by
  refine congrArg (fun p => s.journal.reservations.filter p) (funext fun r => ?_)
  cases r.holder with
  | line l => cases l <;> exact namesReservation_restoredCopy _
  | calibration => rfl

/-- A restored line requests what its stored copy calls for (R136). -/
theorem rewriteRequest_restoredPart (keep : Bool) (s : State) (l : LineId) :
    rewriteRequest (restoredPart keep s) l = rewriteRequest (storedPart s) l := by
  have hst : (restoredPart keep s).lineState l = restoredState (s.store.get l).state := by
    rw [State.lineState, restoredPart_line]; rfl
  have hst' : (storedPart s).lineState l = (s.store.get l).state := by rw [State.lineState, storedPart_kept]
  have hctx' : (storedPart s).ctx l = (s.store.get l).ctx := by rw [State.ctx, storedPart_kept]
  by_cases hc : (s.store.get l).state = .closing
  · have hctx : (restoredPart keep s).ctx l = (s.store.get l).ctx := by
      rw [State.ctx, restoredPart_line]
      show (restoredCopy (s.store.get l)).ctx = _
      simp [restoredCopy, hc, restoredState]
    cases hd : (s.store.get l).ctx with
    | none => rw [rewriteRequest_of_no_delivery (hctx.trans hd), rewriteRequest_of_no_delivery (hctx'.trans hd)]
    | some d =>
      have hnames : namesReservation (s.store.get l) = true := by simp [namesReservation, hc, hd]
      refine rewriteRequest_congr ?_ (hctx.trans hctx'.symm) ?_ rfl
      · rw [hst, hst', hc]; rfl
      · rw [restoredPart_reservations, namedReservations, List.find?_filter]
        refine congrArg (fun p => s.journal.reservations.find? p) (funext fun r => ?_)
        by_cases hr : r.holder = .line l
        · simp [hr, hnames]
        · simp [hr]
  · rw [rewriteRequest_of_not_closing (hst.symm ▸ mt (restoredState_eq_closing_iff _).mp hc),
      rewriteRequest_of_not_closing (hst'.symm ▸ hc)]

/-- Power-on where the newest CALIBRATION record is intact and changes nothing (R135, R196). -/
theorem restore_of_unchanged {s : State} (keep : Bool)
    (h : ∀ r, newestCalibration s.journal = some r →
      r.check = Config.checkValue r.sequence r.kind (storedBytes r.kind r.contents) ∧
        ∀ c, calibrationOf r.contents = some c → c.newCount ≠ s.cal.eventCount + 1) :
    restore keep s =
      { restoredPart keep s with journal := { s.journal with
          reservations := namedReservations s
          queue := rewriteRequest (storedPart s) .line1 ++ rewriteRequest (storedPart s) .line2 } } := by
  have hcheck : checkNewestCalibration (repairJournal (restoreVolatile keep s)) =
      repairJournal (restoreVolatile keep s) := by
    have hj : newestCalibration (repairJournal (restoreVolatile keep s)).journal = newestCalibration s.journal := rfl
    unfold checkNewestCalibration
    rw [hj]
    split
    · rfl
    · next r hr =>
      obtain ⟨hintact, hcount⟩ := h r hr
      cases hc : calibrationOf r.contents with
      | none => exact checkRecord_of_unnamed _ hintact hc
      | some c =>
        rw [checkRecord_of_intact _ hintact hc]
        exact if_neg (hcount c hc)
  rw [restore, hcheck, ← restoredPart, requestRewrites_eq, rewriteRequest_restoredPart, rewriteRequest_restoredPart,
    ← restoredPart_reservations keep s]
  rfl

/-- A lock as it comes up (R151). -/
def upLock (lk : Lock) : Lock :=
  { lk with
    staged := none
    state := if lk.inspector = none then .opened else .locked
    attempts := 5
    frozen := false
    relock := none }

/-- The lock comes up LOCKED exactly where an inspector credential is set (R151). -/
theorem restoreLock_eq (s : State) : restoreLock s = { s with lock := upLock s.lock } := by
  have hstate : (if s.lock.inspector.isSome then LockState.locked else .opened) =
      if s.lock.inspector = none then .opened else .locked := by
    cases s.lock.inspector <;> simp
  rw [restoreLock, upLock, hstate]

theorem exec_powerOn (s : State) : exec .powerOn s = .next (settle s (runPowerOn false s)) := rfl

/-- What steps 5 to 8 of power-on leave as the check of the newest CALIBRATION record has left it. -/
theorem runPowerOn_of_check {keep : Bool} {s q : State}
    (hq : checkNewestCalibration (repairJournal (restoreVolatile keep s)) = q) :
    (runPowerOn keep s).cal = q.cal ∧ (runPowerOn keep s).line = q.line ∧
      (runPowerOn keep s).lock = (restoreLock q).lock ∧ (runPowerOn keep s).journal.records = q.journal.records ∧
      (runPowerOn keep s).journalDamage = q.journalDamage := by
  have hr : restore keep s = requestRewrites (restoreLock q) := by rw [restore, hq]
  rw [runPowerOn_eq, hr, requestRewrites_eq]
  split <;> exact ⟨rfl, rfl, rfl, rfl, rfl⟩

/-- The check of an INTACT record that bears the next event count rolls it forward (R135, R150). -/
theorem check_of_rollForward {s : State} {r : JournalRecord} {c : CalibrationRecord} (keep : Bool)
    (hr : newestCalibration s.journal = some r)
    (hi : r.check = Config.checkValue r.sequence r.kind (storedBytes r.kind r.contents))
    (hc : calibrationOf r.contents = some c) (hn : c.newCount = s.cal.eventCount + 1) :
    checkNewestCalibration (repairJournal (restoreVolatile keep s)) =
      rollForward c (repairJournal (restoreVolatile keep s)) := by
  have hj : newestCalibration (repairJournal (restoreVolatile keep s)).journal = some r := hr
  simp only [checkNewestCalibration, hj, checkRecord_of_intact _ hi hc]
  exact if_pos hn

/-- The check of a DAMAGED record discards it (R135). -/
theorem check_of_damaged {s : State} {r : JournalRecord} (keep : Bool) (hr : newestCalibration s.journal = some r)
    (hi : r.check ≠ Config.checkValue r.sequence r.kind (storedBytes r.kind r.contents)) :
    checkNewestCalibration (repairJournal (restoreVolatile keep s)) =
      { repairJournal (restoreVolatile keep s) with
        journal := discardRecord r.sequence (repairJournal (restoreVolatile keep s)).journal
        journalDamage := true } := by
  have hj : newestCalibration (repairJournal (restoreVolatile keep s)).journal = some r := hr
  simp only [checkNewestCalibration, hj, checkRecord_of_damaged _ hi]

@[simp] theorem itemEffect_cal (sel : ItemSel) (s : State) : (itemEffect sel s).cal = s.cal := by
  unfold itemEffect
  split <;> rfl

theorem rollForward_of_item {c : CalibrationRecord} {sel : ItemSel} (h : c.item = .item sel) (s : State) :
    rollForward c s =
      { itemEffect sel { s with cal := setItem s.cal sel c.newValue } with
        cal := { setItem s.cal sel c.newValue with eventCount := c.newCount } } := by
  simp only [rollForward, applyRecord, h, itemEffect_cal]

theorem rollForward_of_credential {c : CalibrationRecord} {which : CredentialKind} (h : c.item = .credential which)
    (s : State) :
    rollForward c s =
      { s with
        lock := takeStaged which (valueStrict c.newValue) s.lock
        cal := { s.cal with eventCount := c.newCount } } := by
  simp only [rollForward, applyRecord, h]

theorem rollForward_of_lock {c : CalibrationRecord} (h : c.item = .lock) (s : State) :
    rollForward c s =
      { s with
        lock := { s.lock with inspector := none, fleet := none, strict := false, staged := none }
        cal := { s.cal with eventCount := c.newCount } } := by
  simp only [rollForward, applyRecord, h]

theorem deliveryAmount_eq (d : Delivery) :
    deliveryAmount d = if d.kind = .delivery then some (amountOf d.billed (d.price.getD 0)) else none := by
  unfold deliveryAmount
  cases d.kind <;> rfl

theorem stagedFor_of_staged {which : CredentialKind} {lk : Lock} {value : BitVec 128}
    (h : lk.staged = some { which := which, value := value }) : stagedFor which lk = some value := by
  simp [stagedFor, h]

theorem stagedFor_of_unstaged {which : CredentialKind} {lk : Lock}
    (h : ∀ value, lk.staged ≠ some { which := which, value := value }) : stagedFor which lk = none := by
  unfold stagedFor
  split
  · next st hst => exact if_neg fun hw => h st.value (by rw [hst, ← hw])
  · rfl

/-- A standing POWER_FAIL at power-on enters holdup, with a pump stop and CLOSE for both valves (R112, R196). -/
theorem runPowerOn_of_failPin {s : State} (keep : Bool) (h : s.power.failPin = true) :
    (runPowerOn keep s).power.holdup = true ∧
      (runPowerOn keep s).pumpSlot = some { reason := .powerLoss, line := none } ∧
      ∀ l, ((runPowerOn keep s).valve.get l).slot = some .close := by
  rw [runPowerOn_eq, if_pos h]
  exact ⟨rfl, rfl, fun l => by cases l <;> rfl⟩

/-- Power-on that rolls a credential forward: it takes its staged value, and the lock comes up (R150, R151, R156). -/
theorem runPowerOn_of_credential {s : State} {r : JournalRecord} {c : CalibrationRecord} {which : CredentialKind}
    (keep : Bool) (hr : newestCalibration s.journal = some r)
    (hi : r.check = Config.checkValue r.sequence r.kind (storedBytes r.kind r.contents))
    (hc : calibrationOf r.contents = some c) (hn : c.newCount = s.cal.eventCount + 1)
    (hitem : c.item = .credential which) :
    (runPowerOn keep s).cal = { s.cal with eventCount := c.newCount } ∧
      (runPowerOn keep s).lock = upLock (takeStaged which (valueStrict c.newValue) s.lock) := by
  obtain ⟨hcal, -, hlock, -⟩ := runPowerOn_of_check (check_of_rollForward keep hr hi hc hn)
  rw [rollForward_of_credential hitem] at hcal hlock
  rw [restoreLock_eq] at hlock
  exact ⟨hcal, hlock⟩

/-- Settles O52: the check of the newest CALIBRATION record decides what steps 5 to 8 start from, which is the restored
part itself, the part rolled forward, or the part without the damaged record. -/
theorem powerOnRestoresThePart : Obligations.PowerOnRestoresThePart := by
  unfold Obligations.PowerOnRestoresThePart
  intro s result comesUp copy line valve input zero built rewrite intact applied calibrations
  refine ⟨newestCalibration_eq_none_iff _, fun r hr => newestCalibration_greatest hr,
    fun r hr hmax huniq => newestCalibration_eq_some hr hmax huniq,
    ⟨fun _ => rfl, fun _ => rfl, fun f => ?_⟩, fun happ hpin => ?_, fun hpin => ?_, ?_, ?_, ?_, ?_⟩
  · intro byte names value
    have hnames : ∀ item, recordItemOf (byte 8) (byte 9) (byte 10) = some item ↔ names item := fun item =>
      (recordItemOf_eq_some_iff _ _ _ item).trans (by rcases item with _ | (_ | _) | _ <;> exact Iff.rfl)
    have hvalue : value = calValueOf := by
      funext item x
      rcases item with sel | _ | _
      · cases sel <;> rfl
      · rfl
      · rfl
    refine ⟨fun h => calibrationOf_changed_of_unnamed (Option.eq_none_iff_forall_ne_some.mpr fun item hitem => ?_),
      fun item h => ?_⟩
    · exact h item ((hnames item).mp hitem)
    · rw [hvalue, ← credentialOfCode_eq]
      exact calibrationOf_changed_of_names ((hnames item).mpr h)
  · have hline : ∀ l, restoredLine s l = line l := fun l => restoredLine_eq s l
    have hbuilt : ∀ l, buildRecord s l = built l := fun l => funext fun d => by
      rw [buildRecord, deliveryAmount_eq]; rfl
    have hrewrite : ∀ l, rewriteRequest (storedPart s) l = rewrite l := fun l => by
      have hbuild : buildRecord (storedPart s) l = built l := hbuilt l
      rw [rewriteRequest, hbuild]
      cases l <;> rfl
    have hup : runPowerOn false s = restore false s := by rw [runPowerOn_eq, if_neg (by simp [hpin])]
    show exec .powerOn s = _
    rw [exec_powerOn, hup, restore_of_unchanged false happ, hrewrite, hrewrite, restoredPart, restoreLock_eq]
    refine congrArg (fun t => Host.Outcome.next (settle s t)) ?_
    have hpower : (Power.mk true false false false false none) =
        { on := true, failPin := s.power.failPin, holdup := false, releaseWaiting := false, parked := false,
          wakeDelay := none } := by rw [hpin]
    rw [← hline, ← hline, hpower]
    rfl
  · refine ⟨_, exec_powerOn s, ?_⟩
    rw [settle_power, settle_pumpSlot, settle_valve]
    exact runPowerOn_of_failPin false hpin
  · rintro r c sel hr hi hc hn hitem
    obtain ⟨hcal, hline, -⟩ := runPowerOn_of_check (check_of_rollForward false hr hi hc hn)
    rw [rollForward_of_item hitem] at hcal hline
    refine ⟨_, exec_powerOn s, ?_, ?_⟩
    · rw [settle_cal, hcal]; rfl
    · rintro l rfl
      rw [settle_line, hline]
      cases l <;> exact ⟨rfl, rfl⟩
  · rintro r c which hr hi hc hn hitem
    obtain ⟨hcal, hlock⟩ := runPowerOn_of_credential false hr hi hc hn hitem
    refine ⟨_, exec_powerOn s, by rw [settle_cal, hcal], ?_⟩
    rw [settle_lock, hlock]
    refine ⟨rfl, fun set1 set2 strict hv => ?_, fun value hstaged => ⟨?_, ?_⟩, fun hstaged => ?_⟩
    · rw [hv]
      cases which <;> rfl
    · rintro rfl
      simp [upLock, takeStaged, stagedFor_of_staged hstaged]
    · rintro rfl
      simp [upLock, takeStaged, stagedFor_of_staged hstaged]
    · have hnone := stagedFor_of_unstaged hstaged
      cases which <;> simp [upLock, takeStaged, hnone]
  · rintro r c hr hi hc hn hitem
    obtain ⟨hcal, -, hlock, -⟩ := runPowerOn_of_check (check_of_rollForward false hr hi hc hn)
    rw [rollForward_of_lock hitem] at hcal hlock
    refine ⟨_, exec_powerOn s, ?_, ?_⟩
    · rw [settle_cal, hcal]; rfl
    · rw [settle_lock, hlock]
      exact ⟨rfl, rfl, rfl, rfl, rfl⟩
  · rintro r hr hi
    obtain ⟨hcal, -, -, hrecords, hdamage⟩ := runPowerOn_of_check (check_of_damaged false hr hi)
    refine ⟨_, exec_powerOn s, ?_, ?_, ?_⟩
    · rw [settle_journalDamage, hdamage]
    · rw [settle_cal, hcal]; rfl
    · rw [settle_journal, hrecords]; rfl

end Sys2Proof.Machine

namespace Sys2Proof.Machine

/-! ## The remainders below one unit, along every step (R23, R31, R141) -/

/-- A line's remainders lie below one unit of the K-factor `k`, and are 0 without one (R23, R31). -/
def LineCopy.remaindersFit (k : Nat) (c : LineCopy) : Prop :=
  (0 < k →
      0 ≤ c.grossRem ∧ c.grossRem < k * 1000000 ∧ 0 ≤ c.netRem ∧ c.netRem < k * 1000000000000) ∧
    (k = 0 → c.grossRem = 0 ∧ c.netRem = 0)

/-- Both lines' remainders lie below one unit of their K-factors. -/
def RemaindersFit (s : State) : Prop := ∀ l, (s.line.get l).kept.remaindersFit (s.cal.lines.get l).k

theorem remainderLaw_iff (s : State) : RemainderLaw s ↔ StoreAgrees s ∧ RemaindersFit s := Iff.rfl

/-! ### The line context store (R193) -/

theorem settle_storeAgrees (before after : State) : StoreAgrees (settle before after) := by
  unfold settle
  dsimp only
  split <;> rfl

theorem event_storeAgrees {s : State} (h : StoreAgrees s) (f : State → State) : StoreAgrees (event f s) := by
  unfold event
  split
  · exact settle_storeAgrees _ _
  · exact h

theorem loseSupply_storeAgrees {s : State} (h : StoreAgrees s) (between : Bool) :
    StoreAgrees (loseSupply between s) := by
  unfold loseSupply storeFirstOnly
  (repeat' split) <;> exact h

theorem exec_storeAgrees {s t : State} (h : StoreAgrees s) {i : Instr} (he : exec i s = .next t) : StoreAgrees t := by
  cases i <;> injection he with he <;> subst he
  case edgeEvent l e t => exact event_storeAgrees (s := setLevel l e s) h _
  case powerFail => exact event_storeAgrees (s := setFailPin true s) h _
  case powerFailRelease => exact event_storeAgrees (s := setFailPin false s) h _
  case supplyFailure b => exact loseSupply_storeAgrees h b
  case powerOn => exact settle_storeAgrees _ _
  case storageMediumFailure q left => exact h
  all_goals exact event_storeAgrees h _

theorem idle_storeAgrees {s : State} (h : StoreAgrees s) : StoreAgrees (idle s) := by
  unfold idle
  (repeat' split) <;> exact h

theorem step_storeAgrees {s t : State} (h : StoreAgrees s) (hs : step s = .next t) : StoreAgrees t := by
  unfold step at hs
  split at hs
  · injection hs with hs
    exact hs ▸ idle_storeAgrees h
  · next rest _ => exact exec_storeAgrees (s := { s with pending := rest }) h hs

/-! ### The conversion and the calibration items -/

/-- What is left of a number after its whole units lies below one unit. -/
theorem sub_floor_bounds (n : Int) {unit : Int} (h : 0 < unit) :
    0 ≤ n - n / unit * unit ∧ n - n / unit * unit < unit := by
  rw [show n - n / unit * unit = n % unit by rw [Int.emod_def, Int.mul_comm]]
  exact ⟨Int.emod_nonneg n (Int.ne_of_gt h), Int.emod_lt_of_pos n h⟩

/-- The remainders that a conversion carries on lie below one unit (R23, R31). -/
theorem convert_remaindersFit {k : Nat} {c : LineCopy} (h : c.remaindersFit k) (n m vcf : Int) :
    (addTotals (convert k n m vcf c.grossRem c.netRem) c).remaindersFit k := by
  by_cases hk : k = 0
  · subst hk
    exact h
  · have hgross := sub_floor_bounds (n * 1000 * m + c.grossRem) (unit := k * 1000000) (by omega)
    have hnet := sub_floor_bounds (n * 1000 * m * vcf + c.netRem) (unit := k * 1000000000000) (by omega)
    refine ⟨fun _ => ?_, fun h0 => absurd h0 hk⟩
    simp only [addTotals, convert, if_neg hk]
    exact ⟨hgross.1, hgross.2, hnet.1, hnet.2⟩

theorem remaindersFit_of_zero {c : LineCopy} (hgross : c.grossRem = 0) (hnet : c.netRem = 0) (k : Nat) :
    c.remaindersFit k := by
  refine ⟨fun hk => ?_, fun _ => ⟨hgross, hnet⟩⟩
  rw [hgross, hnet]
  omega

/-- A change of a line's other items leaves the K-factors. -/
theorem Calibration.modLine_k (c : Calibration) (m l : LineId) {f : LineCalibration → LineCalibration}
    (hf : ∀ x, (f x).k = x.k := by exact fun _ => rfl) : ((c.modLine m f).lines.get l).k = (c.lines.get l).k := by
  rw [modLine_lines_get]
  split
  · next e => rw [hf, e]
  · rfl

/-- A K-factor changes with its own item alone (R141). -/
theorem setItem_k {sel : ItemSel} {l : LineId} (h : sel ≠ .kFactor l) (c : Calibration) (v : CalValue) :
    ((setItem c sel v).lines.get l).k = (c.lines.get l).k := by
  unfold setItem
  split
  · next m _ => rw [Calibration.modLine_lines_get, if_neg fun e : m = l => h (e ▸ rfl)]
  iterate 8 exact Calibration.modLine_k c _ l
  all_goals rfl

/-! ### Updates of one part of the state -/

theorem ite_remaindersFit {c : Prop} [Decidable c] {a b : State} (ha : RemaindersFit a) (hb : RemaindersFit b) :
    RemaindersFit (if c then a else b) := by
  split
  · exact ha
  · exact hb

section
variable {s : State} (h : RemaindersFit s) (l : LineId)
include h

theorem modLine_remaindersFit_of_fit {f : Line → Line}
    (hf : (f (s.line.get l)).kept.remaindersFit (s.cal.lines.get l).k) : RemaindersFit (s.modLine l f) := by
  intro m
  rw [State.modLine_line, State.modLine_cal, PerLine.get_set]
  split
  · next hm => exact hm ▸ hf
  · exact h m

/-- A change of anything else in a line. -/
theorem modLine_remaindersFit {f : Line → Line}
    (hf : ∀ ln, (f ln).kept.grossRem = ln.kept.grossRem ∧ (f ln).kept.netRem = ln.kept.netRem := by
      exact fun _ => ⟨rfl, rfl⟩) : RemaindersFit (s.modLine l f) := by
  obtain ⟨hgross, hnet⟩ := hf (s.line.get l)
  refine modLine_remaindersFit_of_fit h l ?_
  rw [LineCopy.remaindersFit, hgross, hnet]
  exact h l

theorem modCtx_remaindersFit (f : Delivery → Delivery) : RemaindersFit (s.modCtx l f) := modLine_remaindersFit h l

theorem modCompartment_remaindersFit (c : CompartmentNo) (f : Compartment → Compartment) :
    RemaindersFit (s.modCompartment c f) := h

theorem journal_remaindersFit (j : Journal) : RemaindersFit { s with journal := j } := h

theorem orders_remaindersFit (os : List Order) : RemaindersFit { s with orders := os } := h

/-- What a stop decides leaves the remainders. -/
theorem stopChange_remaindersFit {t : State} (ht : StopChange l s t) (hcal : t.cal = s.cal) : RemaindersFit t := by
  intro m
  rw [hcal]
  by_cases hm : m = l
  · subst hm
    rw [ht.kept]
    exact h m
  · rw [ht.line m hm]
    exact h m

/-! ### Changes of line state and valve commands -/

theorem enterState_remaindersFit (st : LineState) : RemaindersFit (enterState l st s) :=
  stopChange_remaindersFit h l (stopChange_enterState (.refl l s) st) (enterState_cal l st s)

theorem enterStopping_remaindersFit (causes : List StopCause) : RemaindersFit (enterStopping l causes s) :=
  stopChange_remaindersFit h l (stopChange_enterStopping (.refl l s) causes) (enterStopping_cal l causes s)

theorem enterSuspended_remaindersFit (causes : List StopCause) : RemaindersFit (enterSuspended l causes s) :=
  stopChange_remaindersFit h l (stopChange_enterSuspended (.refl l s) causes) (enterSuspended_cal l causes s)

theorem completeStopping_remaindersFit : RemaindersFit (completeStopping l s) :=
  stopChange_remaindersFit h l (stopChange_completeStopping (.refl l s)) (completeStopping_cal l s)

theorem stopOn_remaindersFit (c : StopCause) : RemaindersFit (stopOn l c s) := by
  rw [stopOn_eq]
  exact ite_remaindersFit (enterStopping_remaindersFit h l _)
    (ite_remaindersFit (modCtx_remaindersFit h l _) h)

theorem enterAirHold_remaindersFit (back : ResumeState) : RemaindersFit (enterAirHold l back s) :=
  have hctx := modCtx_remaindersFit h l _
  enterState_remaindersFit (modLine_remaindersFit hctx l) l _

theorem closeBothValves_remaindersFit (r : PumpReason) : RemaindersFit (closeBothValves r s) := h

/-! ### Events of the time base -/

theorem tick_remaindersFit : RemaindersFit (tick l s) := by
  have hleft : RemaindersFit (tickLeft l s) := by
    have hc := convert_remaindersFit (h l) (netPulses (s.pulse.get l))
      (meterFactor (selectBand (s.cal.lines.get l).bands (s.pulse.get l).flow)) (tickVcf s l)
    exact modLine_remaindersFit_of_fit (s := s.modPulse l takeCounts) h l
      (f := fun ln => { ln with kept := keptLeft l s ln.kept }) hc
  rw [tick_eq]
  exact stopChange_remaindersFit hleft l (stopChange_evaluate l _) (evaluate_cal l _)

theorem wakeEvent_remaindersFit : RemaindersFit (wakeEvent s)
  | .line1 => h .line1
  | .line2 => h .line2

theorem takeEdge_remaindersFit (e : PulserEdge) : RemaindersFit (takeEdge l e s) := by
  unfold takeEdge
  dsimp only
  split
  · exact h
  · exact h
  · split
    · exact wakeEvent_remaindersFit (s := (s.modPulse l _).modPulse l _) h
    · exact h

theorem takeOverflow_remaindersFit : RemaindersFit (takeOverflow l s) := ite_remaindersFit h h

theorem takeTick_remaindersFit : RemaindersFit (takeTick l s) :=
  ite_remaindersFit (tick_remaindersFit (modLine_remaindersFit h l) l) h

theorem takeNoFlowExpiry_remaindersFit : RemaindersFit (takeNoFlowExpiry l s) :=
  ite_remaindersFit (enterStopping_remaindersFit h l _) h

theorem takeReportExpiry_remaindersFit : RemaindersFit (takeReportExpiry l s) :=
  have hr : RemaindersFit (raiseLineStatus l (s.modLine l _)) := modLine_remaindersFit h l
  ite_remaindersFit hr h

theorem leaveAirHold_remaindersFit : RemaindersFit (leaveAirHold l s) := by
  unfold leaveAirHold
  split
  · exact enterState_remaindersFit h l _
  · exact h

theorem takeAirClearExpiry_remaindersFit : RemaindersFit (takeAirClearExpiry l s) :=
  ite_remaindersFit (leaveAirHold_remaindersFit (modLine_remaindersFit h l) l) h

theorem takeAirHoldExpiry_remaindersFit : RemaindersFit (takeAirHoldExpiry l s) :=
  ite_remaindersFit (enterStopping_remaindersFit h l _) h

theorem takeAirSilenceExpiry_remaindersFit : RemaindersFit (takeAirSilenceExpiry l s) :=
  ite_remaindersFit
    (ite_remaindersFit (modLine_remaindersFit h l) (modLine_remaindersFit h l)) h

/-! ### Valve driver -/

theorem reportCloseFailure_remaindersFit : RemaindersFit (reportCloseFailure l s) := by
  unfold reportCloseFailure
  split
  · exact h
  · exact h
  · exact h
  · exact modCtx_remaindersFit h l _
  · exact enterSuspended_remaindersFit h l _

theorem escalate_remaindersFit : RemaindersFit (escalate l s) :=
  reportCloseFailure_remaindersFit (s := (placePumpStop .valveFault (some l) s).modValve l _) h l

theorem failOpen_remaindersFit : RemaindersFit (failOpen l s) :=
  have hv : RemaindersFit (s.modValve l _) := h
  ite_remaindersFit (enterSuspended_remaindersFit hv l _) hv

theorem confirmStage_remaindersFit : RemaindersFit (confirmStage l s) :=
  completeStopping_remaindersFit (s := s.modValve l _) h l

theorem takeValveStatus_remaindersFit (p : Position) : RemaindersFit (takeValveStatus l p s) := by
  have hv : RemaindersFit (s.modValve l fun v => { v with reported := some p }) := h
  have he := escalate_remaindersFit hv l
  unfold takeValveStatus
  exact ite_remaindersFit
    (ite_remaindersFit (ite_remaindersFit hv he)
      (ite_remaindersFit (confirmStage_remaindersFit hv l) (ite_remaindersFit he hv)))
    (ite_remaindersFit (failOpen_remaindersFit hv l)
      (ite_remaindersFit (ite_remaindersFit hv hv) (ite_remaindersFit (confirmStage_remaindersFit hv l) hv)))

theorem takeValveFrame_remaindersFit (data : List Byte) : RemaindersFit (takeValveFrame l data s) := by
  unfold takeValveFrame
  split
  · exact h
  · split
    · exact h
    · exact takeValveStatus_remaindersFit h l _

theorem takeConfirmExpiry_remaindersFit : RemaindersFit (takeConfirmExpiry l s) :=
  have hw : RemaindersFit (windowEnds l s) := by
    unfold windowEnds
    exact ite_remaindersFit (ite_remaindersFit h (escalate_remaindersFit h l))
      (ite_remaindersFit h (failOpen_remaindersFit h l))
  ite_remaindersFit hw h

theorem takeRetryExpiry_remaindersFit : RemaindersFit (takeRetryExpiry l s) := ite_remaindersFit h h

/-! ### Field frames -/

theorem takeProbeFrame_remaindersFit (data : List Byte) : RemaindersFit (takeProbeFrame l data s) := by
  unfold takeProbeFrame
  split
  · exact modLine_remaindersFit h l
  · exact modLine_remaindersFit h l

theorem hearAir_remaindersFit : RemaindersFit (hearAir l s) := modLine_remaindersFit h l

theorem takeAirPresent_remaindersFit : RemaindersFit (takeAirPresent l s) := by
  have hh := hearAir_remaindersFit h l
  have hm := modLine_remaindersFit hh l (f := fun ln => { ln with airFlag := true, airClear := none })
  have hq := fun (c : Prop) [Decidable c] => ite_remaindersFit (c := c)
    (modCtx_remaindersFit hm l fun d => { d with flags := { d.flags with airSeen := true } }) hm
  unfold takeAirPresent
  dsimp only
  split
  · exact enterAirHold_remaindersFit (hq _) l _
  · exact enterAirHold_remaindersFit (hq _) l _
  · exact modLine_remaindersFit (hq _) l
  · exact hq _

theorem takeAirClear_remaindersFit : RemaindersFit (takeAirClear l s) :=
  have hh := hearAir_remaindersFit h l
  modLine_remaindersFit hh l

theorem takeAirFrame_remaindersFit (data : List Byte) : RemaindersFit (takeAirFrame l data s) := by
  unfold takeAirFrame
  split
  · exact h
  · exact ite_remaindersFit (takeAirPresent_remaindersFit h l)
      (ite_remaindersFit (takeAirClear_remaindersFit h l) h)

theorem consume_remaindersFit (f : Frame) : RemaindersFit (consume f s) := by
  unfold consume
  split
  · exact h
  · exact takeProbeFrame_remaindersFit h _ _
  · exact takeAirFrame_remaindersFit h _ _
  · exact takeValveFrame_remaindersFit h _ _

/-! ### Forwarding and the transmit ports -/

omit l

theorem modCounters_remaindersFit (d : Direction) (f : Counters → Counters) : RemaindersFit (s.modCounters d f) := by
  cases d <;> exact h

theorem forwardFrame_remaindersFit (d : Direction) (f : Frame) : RemaindersFit (forwardFrame d f s) := by
  unfold forwardFrame joinFifo
  split
  · refine ite_remaindersFit (modCounters_remaindersFit h d _) ?_
    split <;> exact h
  · exact modCounters_remaindersFit h d _
  · exact modCounters_remaindersFit h d _

theorem takeFieldFrame_remaindersFit (f : Frame) : RemaindersFit (takeFieldFrame f s) :=
  have hc := consume_remaindersFit h f
  ite_remaindersFit h <| ite_remaindersFit (ite_remaindersFit h (modCounters_remaindersFit h _ _))
    (ite_remaindersFit hc (forwardFrame_remaindersFit hc _ _))

theorem takeFieldPort_remaindersFit : RemaindersFit (takeFieldPort s) := by
  unfold takeFieldPort sendForwarded
  dsimp only [State.modCounters]
  (repeat' split) <;> exact h

theorem takeCabPort_remaindersFit : RemaindersFit (takeCabPort s) := by
  unfold takeCabPort sendToCab
  (repeat' split) <;> exact h

theorem enterBusOff_remaindersFit (k : Link) : RemaindersFit (enterBusOff k s) := by
  cases k <;> exact h

theorem recoverBusOff_remaindersFit (k : Link) : RemaindersFit (recoverBusOff k s) := by
  cases k
  · exact h
  · exact ite_remaindersFit h h

end

/-! ### Line commands -/

/-- Both answers leave the remainders. -/
theorem ite_fst_remaindersFit {c : Prop} [Decidable c] {a b : State × Answer} (ha : RemaindersFit a.1)
    (hb : RemaindersFit b.1) : RemaindersFit (if c then a else b).1 := by
  split
  · exact ha
  · exact hb

section
variable {s : State} (h : RemaindersFit s)
include h

theorem onLine_remaindersFit (n : Nat) {f : LineId → State × Answer} (hf : ∀ l, RemaindersFit (f l).1) :
    RemaindersFit (onLine n s f).1 := by
  unfold onLine
  split
  · exact h
  · exact hf _

theorem openDelivery_remaindersFit (l : LineId) (d : Delivery) : RemaindersFit (openDelivery l d s) := by
  unfold openDelivery
  exact enterState_remaindersFit
    (journal_remaindersFit (modCompartment_remaindersFit (modLine_remaindersFit h l) _ _) _) l _

theorem ownerArm_remaindersFit (n order c : Nat) : RemaindersFit (ownerArm n order c s).1 :=
  onLine_remaindersFit h n fun l => by
    unfold armLine
    refine ite_fst_remaindersFit h (ite_fst_remaindersFit h ?_)
    split
    · exact h
    · refine ite_fst_remaindersFit h (ite_fst_remaindersFit h ?_)
      split
      · exact h
      · refine ite_fst_remaindersFit h (ite_fst_remaindersFit h ?_)
        split
        · exact h
        · exact openDelivery_remaindersFit (orders_remaindersFit h _) _ _

theorem ownerArmFlush_remaindersFit (n c : Nat) : RemaindersFit (ownerArmFlush n c s).1 :=
  onLine_remaindersFit h n fun l => by
    unfold armFlushLine
    refine ite_fst_remaindersFit h (ite_fst_remaindersFit h ?_)
    split
    · exact h
    · split
      · exact h
      · refine ite_fst_remaindersFit h ?_
        split
        · exact h
        · exact openDelivery_remaindersFit h _ _

theorem undoArm_remaindersFit (l : LineId) (d : Delivery) : RemaindersFit (undoArm l d s) := by
  have hg : RemaindersFit (releaseGrant d s) := h
  unfold undoArm
  dsimp only
  split
  · exact enterState_remaindersFit (modLine_remaindersFit (journal_remaindersFit hg _) l) l _
  · have ho := orders_remaindersFit hg (bindOrder ‹_› none (releaseGrant d s).orders)
    exact enterState_remaindersFit (modLine_remaindersFit (journal_remaindersFit ho _) l) l _

theorem ownerDisarm_remaindersFit (n : Nat) : RemaindersFit (ownerDisarm n s).1 :=
  onLine_remaindersFit h n fun l => by
    split
    · exact undoArm_remaindersFit h _ _
    · exact h

theorem beginFlow_remaindersFit (l : LineId) (r : ResumeState) : RemaindersFit (beginFlow l r s) :=
  ite_remaindersFit (enterAirHold_remaindersFit h l r) (enterState_remaindersFit h l _)

theorem ownerStart_remaindersFit (n : Nat) : RemaindersFit (ownerStart n s).1 :=
  onLine_remaindersFit h n fun l => by
    split
    · unfold startLine
      split
      · exact h
      · exact beginFlow_remaindersFit (modCtx_remaindersFit h l _) _ _
    · exact h

theorem ownerResume_remaindersFit (n : Nat) : RemaindersFit (ownerResume n s).1 :=
  onLine_remaindersFit h n fun l => by
    split
    · exact enterState_remaindersFit h l _
    · unfold resumePaused
      split
      · exact h
      · exact ite_fst_remaindersFit h (beginFlow_remaindersFit (modCtx_remaindersFit h l _) _ _)
    · exact h

theorem ownerPause_remaindersFit (n : Nat) : RemaindersFit (ownerPause n s).1 :=
  onLine_remaindersFit h n fun l => by
    split
    iterate 4 exact stopOn_remaindersFit h l _
    exact h

theorem ownerStop_remaindersFit (n : Nat) : RemaindersFit (ownerStop n s).1 :=
  onLine_remaindersFit h n fun l => by
    split
    iterate 4 exact stopOn_remaindersFit h l _
    · exact enterState_remaindersFit (modCtx_remaindersFit h l _) l _
    · exact h

theorem ownerEmergencyStop_remaindersFit : RemaindersFit (ownerEmergencyStop s).1 :=
  closeBothValves_remaindersFit (stopOn_remaindersFit (stopOn_remaindersFit h _ _) _ _) _

theorem ownerEnd_remaindersFit (n : Nat) : RemaindersFit (ownerEnd n s).1 :=
  onLine_remaindersFit h n fun l => by
    split
    · exact h
    · next d _ =>
      have hc := modCtx_remaindersFit h l fun _ => endContext s d
      exact ite_fst_remaindersFit (enterState_remaindersFit (journal_remaindersFit hc _) l _) h

/-! ### The command port -/

/-- The owners of the other commands leave lines and calibration set as they are: an accepted calibration command
changes them at the completion of its write (R146, R148). -/
theorem runCommand_remaindersFit (c : Command) : RemaindersFit (runCommand c s).1 := by
  cases c
  case arm line order compartment => exact ownerArm_remaindersFit h line order compartment
  case armFlush line compartment => exact ownerArmFlush_remaindersFit h line compartment
  case disarm line => exact ownerDisarm_remaindersFit h line
  case start line => exact ownerStart_remaindersFit h line
  case pause line => exact ownerPause_remaindersFit h line
  case resume line => exact ownerResume_remaindersFit h line
  case stop line => exact ownerStop_remaindersFit h line
  case endDelivery line => exact ownerEnd_remaindersFit h line
  case emergencyStop => exact ownerEmergencyStop_remaindersFit h
  case readLineStatus line => exact onLine_remaindersFit h line fun _ => h
  case readTotalizers line => exact onLine_remaindersFit h line fun _ => h
  all_goals
    simp only [runCommand, ownerLoadOrder, ownerRemoveOrder, ownerReadOrder, ownerLoadCompartment, ownerReadCompartment,
      ownerReadProduct, ownerReadRecord, ownerReleaseThrough, ownerReadJournalState, ownerReadCalibrationIdentity,
      ownerReadCalibrationItem, ownerWriteCalibrationItem, acceptCalibration, restartRelock, ownerUnlock, ownerLock,
      ownerSetCredential, ownerRemoveLock, ownerFreeze, ownerWritePassEntry, ownerDeletePassEntry, ownerReadPassEntry,
      ownerReadForwardingCounters, ownerClearForwardingCounters, ownerSetTime, ownerWriteSetting, ownerReadSetting,
      ownerRestoreDefaults, ownerReadDeviceStatus, ownerClearCondition, ownerPark, ownerRestart]
    (repeat' split) <;> exact h

theorem placeAnswer_remaindersFit (code tag : Nat) (a : Answer) : RemaindersFit (placeAnswer code tag a s) := by
  cases a <;> exact h

theorem takeCommandFrame_remaindersFit (code tag : Nat) (c : Option Command) :
    RemaindersFit (takeCommandFrame code tag c s) := by
  have hd : RemaindersFit (decideCommand code c s).1 := by
    unfold decideCommand
    refine ite_fst_remaindersFit h (ite_fst_remaindersFit h ?_)
    split
    · exact h
    · exact runCommand_remaindersFit h _
  unfold takeCommandFrame
  exact ite_remaindersFit h (placeAnswer_remaindersFit hd code tag _)

theorem receiveCab_remaindersFit {f : State → State} (hf : RemaindersFit (f s)) : RemaindersFit (receiveCab f s) :=
  ite_remaindersFit h (ite_remaindersFit (wakeEvent_remaindersFit h) (ite_remaindersFit h (ite_remaindersFit h hf)))

theorem handleCabFrame_remaindersFit (f : Frame) : RemaindersFit (handleCabFrame f s) :=
  ite_remaindersFit (ite_remaindersFit (takeCommandFrame_remaindersFit h _ _ _) h)
    (ite_remaindersFit (modCounters_remaindersFit h _ _) (forwardFrame_remaindersFit h _ _))

/-! ### Calibration changes, power-on, and the completion of writes -/

/-- The change of an item keeps the remainders below one unit: with a new K-factor they are 0 (R141). -/
theorem setItem_remaindersFit (sel : ItemSel) (v : CalValue) :
    RemaindersFit (itemEffect sel { s with cal := setItem s.cal sel v }) := by
  intro m
  by_cases hm : sel = .kFactor m
  · subst hm
    simp only [itemEffect, State.modKept_line, PerLine.get_set_same]
    exact remaindersFit_of_zero rfl rfl _
  · have hk := setItem_k hm s.cal v
    have hline : ((itemEffect sel { s with cal := setItem s.cal sel v }).line.get m) = s.line.get m := by
      unfold itemEffect
      split
      · next l =>
        exact PerLine.get_set_other _ _ _ _ fun e => hm (e ▸ rfl)
      · rfl
      · rfl
    rw [hline, itemEffect_cal, hk]
    exact h m

theorem applyRecord_remaindersFit (level : Bool) (r : CalibrationRecord) : RemaindersFit (applyRecord level r s) := by
  unfold applyRecord
  dsimp only
  split
  · exact setItem_remaindersFit h _ _
  · exact h
  · exact h

theorem checkNewestCalibration_remaindersFit : RemaindersFit (checkNewestCalibration s) := by
  unfold checkNewestCalibration
  split
  · exact h
  · unfold checkRecord
    refine ite_remaindersFit h ?_
    split
    · exact ite_remaindersFit (applyRecord_remaindersFit h _ _) h
    · exact h

theorem requestRewrite_remaindersFit (l : LineId) : RemaindersFit (requestRewrite s l) := by
  rw [requestRewrite_eq]
  exact h

theorem enterHoldup_remaindersFit : RemaindersFit (enterHoldup s) :=
  closeBothValves_remaindersFit (stopOn_remaindersFit (stopOn_remaindersFit h _ _) _ _) .powerLoss

theorem takePowerFail_remaindersFit : RemaindersFit (takePowerFail s) :=
  ite_remaindersFit h (enterHoldup_remaindersFit (ite_remaindersFit (wakeEvent_remaindersFit h) h))

/-- Power-on brings the lines up from the line context store (R196). -/
theorem runPowerOn_remaindersFit (hs : StoreAgrees s) (keep : Bool) : RemaindersFit (runPowerOn keep s) := by
  have hv : RemaindersFit (restoreVolatile keep s) := by
    intro m
    have hstore : s.store.get m = (s.line.get m).kept := by
      rw [hs]
      cases m <;> rfl
    have hm := hstore ▸ h m
    cases m <;> exact hm
  have hc := checkNewestCalibration_remaindersFit (s := repairJournal (restoreVolatile keep s)) hv
  have hr : RemaindersFit (restore keep s) :=
    requestRewrite_remaindersFit (requestRewrite_remaindersFit (s := restoreLock _) hc _) _
  exact ite_remaindersFit (enterHoldup_remaindersFit hr) hr

theorem takeRelease_remaindersFit (hs : StoreAgrees s) : RemaindersFit (takeRelease s) :=
  ite_remaindersFit h (ite_remaindersFit (runPowerOn_remaindersFit h hs _) h)

/-- A power-on in the event that changed the line contexts takes the store as that event leaves it (entry 36). -/
theorem runPowerOn_stored_remaindersFit (keep : Bool) : RemaindersFit (runPowerOn keep { s with store := copies s }) :=
  runPowerOn_remaindersFit (s := { s with store := copies s }) h rfl keep

theorem performReset_remaindersFit (k : ResetKind) : RemaindersFit (performReset k s) := by
  unfold performReset
  refine ite_remaindersFit ?_ h
  cases k
  · exact ite_remaindersFit h h
  · exact runPowerOn_stored_remaindersFit (tick_remaindersFit (tick_remaindersFit h .line1) .line2) true

theorem countForwarded_remaindersFit (d : Direction) (t : Transmission) : RemaindersFit (countForwarded d t s) :=
  ite_remaindersFit (modCounters_remaindersFit h d _) h

theorem takeTransmission_remaindersFit (k : Link) : RemaindersFit (takeTransmission k s) := by
  unfold takeTransmission
  split
  · split
    · exact countForwarded_remaindersFit (s := { s with forward := { s.forward with txField := none } }) h _ _
    · exact h
  · split
    · next t _ _ =>
      have hc :=
        countForwarded_remaindersFit (s := { s with forward := { s.forward with txCab := none } }) h .fieldToCab t
      unfold performCompletion
      split
      · exact hc
      · exact performReset_remaindersFit hc _
    · exact h

theorem closeLine_remaindersFit (l : LineId) : RemaindersFit (closeLine l s) := by
  unfold closeLine
  split
  · exact h
  · next d _ =>
    have hg : RemaindersFit (releaseGrant d s) := h
    dsimp only
    split
    · exact enterState_remaindersFit (modLine_remaindersFit hg l) l _
    · exact enterState_remaindersFit (modLine_remaindersFit (orders_remaindersFit hg _) l) l _

theorem answerInFlight_remaindersFit (q : Nat) : RemaindersFit (answerInFlight q s) := by
  unfold answerInFlight
  split <;> exact h

theorem restartRelock_remaindersFit : RemaindersFit (restartRelock s) := by
  unfold restartRelock
  split <;> exact h

theorem reportCompletion_remaindersFit (w : JournalWrite) : RemaindersFit (reportCompletion w s) := by
  unfold reportCompletion
  split
  · exact closeLine_remaindersFit h _
  · exact answerInFlight_remaindersFit (restartRelock_remaindersFit (applyRecord_remaindersFit h _ _)) _
  · exact h

theorem takeWriteCompletion_remaindersFit : RemaindersFit (takeWriteCompletion s) := by
  unfold takeWriteCompletion
  split
  · exact h
  · next w rest _ =>
    have hr := reportCompletion_remaindersFit (journal_remaindersFit h (completeWrite w rest s.journal)) w
    exact ite_remaindersFit (runPowerOn_stored_remaindersFit hr _) hr

theorem loseSupply_remaindersFit (between : Bool) : RemaindersFit (loseSupply between s) := by
  unfold loseSupply storeFirstOnly
  (repeat' split) <;> exact h

/-! ### Commands and steps -/

theorem settle_remaindersFit (before : State) : RemaindersFit (settle before s) := by
  intro l
  rw [settle_line, settle_cal]
  exact h l

theorem event_remaindersFit {f : State → State} (hf : RemaindersFit (f s)) : RemaindersFit (event f s) :=
  ite_remaindersFit (settle_remaindersFit hf s) h

theorem timedEvent_remaindersFit (t : Micros) {f : State → State}
    (hf : ∀ q, RemaindersFit q → RemaindersFit (f q)) : RemaindersFit (timedEvent t f s) :=
  event_remaindersFit h (hf (advanceTo t s) h)

theorem exec_remaindersFit (hs : StoreAgrees s) {i : Instr} {t : State} (he : exec i s = .next t) :
    RemaindersFit t := by
  cases i <;> injection he with he <;> subst he
  case edgeEvent l e t =>
    exact timedEvent_remaindersFit (s := setLevel l e s) h t fun _ hq => takeEdge_remaindersFit hq l e
  case periodTimerOverflow l t => exact timedEvent_remaindersFit h t fun _ hq => takeOverflow_remaindersFit hq l
  case meteringTick l t => exact timedEvent_remaindersFit h t fun _ hq => takeTick_remaindersFit hq l
  case temperatureAgeExpiry l t => exact timedEvent_remaindersFit h t fun _ hq => hq
  case noFlowTimerExpiry l t => exact timedEvent_remaindersFit h t fun _ hq => takeNoFlowExpiry_remaindersFit hq l
  case airClearTimerExpiry l t => exact timedEvent_remaindersFit h t fun _ hq => takeAirClearExpiry_remaindersFit hq l
  case airHoldTimerExpiry l t => exact timedEvent_remaindersFit h t fun _ hq => takeAirHoldExpiry_remaindersFit hq l
  case airSilenceExpiry l t => exact timedEvent_remaindersFit h t fun _ hq => takeAirSilenceExpiry_remaindersFit hq l
  case reportTimerExpiry l t => exact timedEvent_remaindersFit h t fun _ hq => takeReportExpiry_remaindersFit hq l
  case relockTimerExpiry t => exact timedEvent_remaindersFit h t fun _ hq => ite_remaindersFit hq hq
  case confirmationTimerExpiry l t =>
    exact timedEvent_remaindersFit h t fun _ hq => takeConfirmExpiry_remaindersFit hq l
  case retryTimerExpiry l t => exact timedEvent_remaindersFit h t fun _ hq => takeRetryExpiry_remaindersFit hq l
  case wakeDelayEnd t => exact timedEvent_remaindersFit h t fun _ hq => ite_remaindersFit hq hq
  case fieldFrameArrival f => exact event_remaindersFit h (takeFieldFrame_remaindersFit h f)
  case cabFrameArrival f => exact event_remaindersFit h (receiveCab_remaindersFit h (handleCabFrame_remaindersFit h f))
  case fieldPortTake => exact event_remaindersFit h (takeFieldPort_remaindersFit h)
  case cabPortTake => exact event_remaindersFit h (takeCabPort_remaindersFit h)
  case transmissionCompletion k => exact event_remaindersFit h (takeTransmission_remaindersFit h k)
  case busOff k => exact event_remaindersFit h (enterBusOff_remaindersFit h k)
  case busOffRecovery k => exact event_remaindersFit h (recoverBusOff_remaindersFit h k)
  case writeCompletion => exact event_remaindersFit h (takeWriteCompletion_remaindersFit h)
  case powerFail =>
    exact event_remaindersFit (s := setFailPin true s) h (takePowerFail_remaindersFit (s := setFailPin true s) h)
  case powerFailRelease =>
    exact event_remaindersFit (s := setFailPin false s) h (takeRelease_remaindersFit (s := setFailPin false s) h hs)
  case supplyFailure b => exact loseSupply_remaindersFit h b
  case powerOn => exact settle_remaindersFit (runPowerOn_remaindersFit h hs false) s
  case storageMediumFailure q left => exact h
  all_goals exact event_remaindersFit h (receiveCab_remaindersFit h (takeCommandFrame_remaindersFit h _ _ _))

theorem step_remaindersFit (hs : StoreAgrees s) {t : State} (he : step s = .next t) : RemaindersFit t := by
  unfold step at he
  split at he
  · injection he with he
    subst he
    unfold idle
    (repeat' split) <;> exact h
  · next rest _ => exact exec_remaindersFit (s := { s with pending := rest }) h hs he

end

/-- Settles O57: the law is the agreement of the line context store and `RemaindersFit`, and every command keeps
both. -/
theorem stepKeepsRemainderLaw : Obligations.StepKeepsRemainderLaw := by
  unfold Obligations.StepKeepsRemainderLaw
  intro s t hlaw hstep
  obtain ⟨hstore, hfit⟩ := (remainderLaw_iff s).mp hlaw
  exact (remainderLaw_iff t).mpr ⟨step_storeAgrees hstore hstep, step_remaindersFit hfit hstore hstep⟩

end Sys2Proof.Machine

namespace Sys2Proof.Machine

/-! ## Rounding, the band of a tick, and its volume-correction factor (R22, R28 to R30; spec/00, 6.3) -/

/-- Half up, the quotient lies within half a unit below and less than half a unit above. -/
theorem divHalfUp_bounds (a : Int) {d : Int} (hd : 0 < d) :
    -d ≤ 2 * (a - divHalfUp a d * d) ∧ 2 * (a - divHalfUp a d * d) < d := by
  have hle := Int.ediv_mul_le (2 * a + d) (b := 2 * d) (by omega)
  have hlt := Int.lt_ediv_add_one_mul_self (2 * a + d) (b := 2 * d) (by omega)
  have hmul : (2 * a + d) / (2 * d) * (2 * d) = 2 * (divHalfUp a d * d) := by
    unfold divHalfUp
    ring
  rw [add_mul, one_mul, hmul] at hlt
  rw [hmul] at hle
  omega

/-- Half away from zero rounds a negative quotient as its opposite. -/
theorem divHalfAway_eq (a d : Int) : divHalfAway a d = if 0 ≤ a then divHalfUp a d else -divHalfUp (-a) d := rfl

/-- The band chosen among `bands` and the best one before them: one of them, not above the flow rate, and no lower one of
them reaches higher. -/
theorem foldl_band_greatest (bands : List Band) (flow : Nat) (best : Band) (h : best.lower ≤ flow) :
    let r := bands.foldl (fun best b => if b.lower ≤ flow ∧ best.lower ≤ b.lower then b else best) best
    (r = best ∨ r ∈ bands) ∧ r.lower ≤ flow ∧ best.lower ≤ r.lower ∧ ∀ x ∈ bands, x.lower ≤ flow → x.lower ≤ r.lower := by
  induction bands generalizing best with
  | nil => exact ⟨.inl rfl, h, Nat.le_refl _, by simp⟩
  | cons b bands ih =>
    rw [List.foldl_cons]
    split
    · next hb =>
      obtain ⟨hmem, hflow, hbest, hall⟩ := ih b hb.1
      refine ⟨.inr (List.mem_cons.mpr hmem), hflow, hb.2.trans hbest, fun x hx hxf => ?_⟩
      rcases List.mem_cons.mp hx with rfl | hx
      · exact hbest
      · exact hall x hx hxf
    · next hb =>
      obtain ⟨hmem, hflow, hbest, hall⟩ := ih best h
      refine ⟨hmem.imp_right (List.mem_cons_of_mem b), hflow, hbest, fun x hx hxf => ?_⟩
      rcases List.mem_cons.mp hx with rfl | hx
      · exact (Nat.lt_of_not_le fun hle => hb ⟨hxf, hle⟩).le.trans hbest
      · exact hall x hx hxf

/-- Settles O11: both quotients lie within half a unit (`divHalfUp_bounds`), and the choice of the band is an induction
over the table. -/
theorem roundingsAndBandSelection : Obligations.RoundingsAndBandSelection := by
  unfold Obligations.RoundingsAndBandSelection
  refine ⟨fun a d hd => ?_, fun b bands flow hb => ?_⟩
  · have hup := divHalfUp_bounds a hd
    have hneg := divHalfUp_bounds (-a) hd
    rw [divHalfAway_eq]
    simp only [abs_eq_max_neg]
    split
    · generalize divHalfUp a d * d = q at hup
      omega
    · rw [neg_mul]
      generalize divHalfUp a d * d = q at hup
      generalize divHalfUp (-a) d * d = r at hneg
      omega
  · obtain ⟨hmem, hflow, -, hall⟩ := foldl_band_greatest (b :: bands) flow b (hb ▸ Nat.zero_le flow)
    refine ⟨?_, hflow, hall⟩
    rcases hmem with h | h
    · exact List.mem_cons.mpr (.inl h)
    · exact h

theorem tickProduct_of_hose {s : State} {l : LineId} {q : ProductNo} (hidle : s.lineState l = .idle)
    (hhose : (s.line.get l).kept.hose = .product q) :
    tickProduct s l = if s.cal.products[q].defined then some s.cal.products[q] else none := by
  simp only [tickProduct, hidle, hhose]

theorem tickProduct_of_noHose {s : State} {l : LineId} (hidle : s.lineState l = .idle)
    (hhose : ∀ q, (s.line.get l).kept.hose ≠ .product q) : tickProduct s l = none := by
  cases h : (s.line.get l).kept.hose with
  | product q => exact absurd h (hhose q)
  | unknown => simp only [tickProduct, hidle, h]
  | mixed => simp only [tickProduct, hidle, h]

theorem tickProduct_of_working {s : State} {l : LineId} (hidle : s.lineState l ≠ .idle) :
    tickProduct s l = (s.ctx l).map fun d => s.cal.products[d.product] := by
  unfold tickProduct
  split
  · contradiction
  · rfl

/-- The product that a tick converts with: the delivery's outside IDLE, and in IDLE the defined one of the hose (R28). -/
theorem tickProduct_eq_some_iff (s : State) (l : LineId) (p : Product) :
    tickProduct s l = some p ↔
      (s.lineState l ≠ .idle ∧ ∃ d, s.ctx l = some d ∧ p = s.cal.products[d.product]) ∨
        (s.lineState l = .idle ∧
          ∃ q, (s.line.get l).kept.hose = .product q ∧ p = s.cal.products[q] ∧ p.defined = true) := by
  by_cases hidle : s.lineState l = .idle
  · by_cases hhose : ∃ q, (s.line.get l).kept.hose = .product q
    · obtain ⟨q, hq⟩ := hhose
      rw [tickProduct_of_hose hidle hq]
      simp only [hidle, hq, HoseProduct.product.injEq, ne_eq, not_true_eq_false, false_and, false_or, true_and,
        exists_eq_left']
      constructor
      · intro h
        split at h
        · next hdef =>
          cases h
          exact ⟨rfl, hdef⟩
        · cases h
      · rintro ⟨rfl, hdef⟩
        rw [if_pos hdef]
    · have hnone : ∀ q, (s.line.get l).kept.hose ≠ .product q := fun q hq => hhose ⟨q, hq⟩
      simp [tickProduct_of_noHose hidle hnone, hidle, hnone]
  · rw [tickProduct_of_working hidle, Option.map_eq_some_iff]
    simp only [hidle, ne_eq, not_false_eq_true, true_and, false_and, or_false, @eq_comm _ p]

/-- The factor before the clamp, where a tick has a product and a temperature (R28 to R30). -/
theorem tickRawVcf_eq_some_iff (s : State) (l : LineId) (v : Int) :
    tickRawVcf s l = some v ↔
      ∃ p x, tickProduct s l = some p ∧ (s.line.get l).temp = some x ∧ v = rawVcf p x.value := by
  unfold tickRawVcf
  cases tickProduct s l <;> cases (s.line.get l).temp <;> simp [eq_comm]

theorem tickRawVcf_eq_none_iff (s : State) (l : LineId) :
    tickRawVcf s l = none ↔ tickProduct s l = none ∨ (s.line.get l).temp = none := by
  unfold tickRawVcf
  cases tickProduct s l <;> cases (s.line.get l).temp <;> simp

theorem tickVcf_of_raw {s : State} {l : LineId} {v : Int} (h : tickRawVcf s l = some v) :
    tickVcf s l = clampVcf v := by simp only [tickVcf, h]

theorem tickVcf_of_none {s : State} {l : LineId} (h : tickRawVcf s l = none) : tickVcf s l = 1000000 := by
  simp only [tickVcf, h]

/-- A factor lies in its range, whatever it is computed from (R30). -/
theorem tickVcf_bounds (s : State) (l : LineId) : 900000 ≤ tickVcf s l ∧ tickVcf s l ≤ 1100000 := by
  cases h : tickRawVcf s l with
  | none =>
    rw [tickVcf_of_none h]
    omega
  | some v =>
    rw [tickVcf_of_raw h]
    exact clampInt_bounds (by decide) v

/-- The clamp acts exactly on a factor outside the range (R30). -/
theorem tickClamps_iff (s : State) (l : LineId) :
    tickClamps s l = true ↔ ∃ v, tickRawVcf s l = some v ∧ (v < 900000 ∨ 1100000 < v) := by
  unfold tickClamps
  cases tickRawVcf s l with
  | none => simp
  | some v =>
    rw [decide_eq_true_iff]
    simp only [Option.some.injEq, exists_eq_left', clampVcf, clampInt]
    omega

/-- Settles O12: the product and the temperature of a tick decide its factor before the clamp, and the clamp keeps it
in its range. -/
theorem tickUsesVolumeCorrection : Obligations.TickUsesVolumeCorrection := by
  unfold Obligations.TickUsesVolumeCorrection
  intro l s
  dsimp only
  refine ⟨tickVcf_bounds s l, ?_, fun htemp => ?_, fun hidle hhose => ?_, fun p x htemp hconv => ?_⟩
  · rw [tickClamps_iff]
    constructor
    · rintro ⟨v, hv, hout⟩
      obtain ⟨p, x, hp, hx, rfl⟩ := (tickRawVcf_eq_some_iff s l v).mp hv
      exact ⟨p, x, hx, (tickProduct_eq_some_iff s l p).mp hp, hout⟩
    · rintro ⟨p, x, hx, hp, hout⟩
      exact ⟨_, (tickRawVcf_eq_some_iff s l _).mpr ⟨p, x, (tickProduct_eq_some_iff s l p).mpr hp, hx, rfl⟩, hout⟩
  · exact tickVcf_of_none ((tickRawVcf_eq_none_iff s l).mpr (.inr htemp))
  · refine tickVcf_of_none ((tickRawVcf_eq_none_iff s l).mpr (.inl (Option.eq_none_iff_forall_ne_some.mpr fun p hp => ?_)))
    rcases (tickProduct_eq_some_iff s l p).mp hp with ⟨hne, -⟩ | ⟨-, q, hq, rfl, hdef⟩
    · exact hne hidle
    · exact Bool.false_ne_true ((hhose q hq).symm.trans hdef)
  · exact tickVcf_of_raw
      ((tickRawVcf_eq_some_iff s l _).mpr ⟨p, x, (tickProduct_eq_some_iff s l p).mpr hconv, htemp, rfl⟩)

end Sys2Proof.Machine

namespace Sys2Proof.Machine

/-! ## The timers of a line and the frames of its probe (R25 to R27, R89 to R93, R163, R175, R186) -/

/-! ### When a timer of a line is due -/

/-- A timer that stands still in park, is stopped, or is not yet due, does not act. -/
theorem timerDue_and_running_of_rests {timer : Timer} {clock : Micros} {parked : Bool}
    (h : parked = true ∨ ∀ x, timer = some x → clock < x) : (timerDue timer clock && !parked) = false := by
  rcases h with rfl | h
  · simp
  · rw [timerDue_of_rests h, Bool.false_and]

/-- A timer whose deadline is reached has expired. -/
theorem timerDue_of_due {timer : Timer} {clock : Micros} (h : ∃ x, timer = some x ∧ x ≤ clock) :
    timerDue timer clock = true := by
  obtain ⟨x, rfl, hx⟩ := h
  exact decide_eq_true hx

theorem LineState.flows_iff (st : LineState) : st.flows = true ↔ st = .flowing ∨ st = .slowdown := by
  cases st <;> simp [LineState.flows]

section
variable {s : State} {l : LineId}

theorem noFlowDue_of_rests
    (h : (s.power.parked = true ∨ ∀ x, (s.line.get l).noFlow = some x → s.awake < x) ∨
      (s.lineState l ≠ .flowing ∧ s.lineState l ≠ .slowdown)) : noFlowDue s l = false := by
  unfold noFlowDue
  rw [Bool.and_right_comm]
  rcases h with h | ⟨hf, hs⟩
  · rw [timerDue_and_running_of_rests h, Bool.false_and]
  · rw [Bool.and_eq_false_iff]
    exact .inr (Bool.eq_false_iff.mpr fun h => ((s.lineState l).flows_iff.mp h).elim hf hs)

theorem airHoldDue_of_rests
    (h : (s.power.parked = true ∨ ∀ x, (s.line.get l).airHold = some x → s.awake < x) ∨ s.lineState l ≠ .airHold) :
    airHoldDue s l = false := by
  unfold airHoldDue
  rw [Bool.and_right_comm]
  rcases h with h | h
  · rw [timerDue_and_running_of_rests h, Bool.false_and]
  · rw [decide_eq_false h, Bool.and_false]

theorem noFlowDue_of_due (hp : s.power.parked = false) (h : ∃ x, (s.line.get l).noFlow = some x ∧ x ≤ s.awake)
    (hst : s.lineState l = .flowing ∨ s.lineState l = .slowdown) : noFlowDue s l = true := by
  rw [noFlowDue, timerDue_of_due h, (LineState.flows_iff _).mpr hst, hp]
  rfl

theorem airHoldDue_of_due (hp : s.power.parked = false) (h : ∃ x, (s.line.get l).airHold = some x ∧ x ≤ s.awake)
    (hst : s.lineState l = .airHold) : airHoldDue s l = true := by
  rw [airHoldDue, timerDue_of_due h, decide_eq_true hst, hp]
  rfl

theorem airClearDue_of_due (hp : s.power.parked = false) (h : ∃ x, (s.line.get l).airClear = some x ∧ x ≤ s.awake) :
    airClearDue s l = true := by
  rw [airClearDue, timerDue_of_due h, hp]
  rfl

theorem airSilenceDue_of_due (hp : s.power.parked = false)
    (h : ∃ x, (s.line.get l).airSilence = some x ∧ x ≤ s.awake) : airSilenceDue s l = true := by
  rw [airSilenceDue, timerDue_of_due h, hp]
  rfl

theorem reportDue_of_due (hp : s.power.parked = false) (h : ∃ x, (s.line.get l).report = some x ∧ x ≤ s.awake) :
    reportDue s l = true := by
  rw [reportDue, timerDue_of_due h, hp]
  rfl

/-! ### What an expiry does -/

theorem leaveAirHold_of_stays (h : s.lineState l ≠ .airHold ∨ (s.line.get l).resume = none) : leaveAirHold l s = s := by
  unfold leaveAirHold
  split
  · next r hst hr =>
    rcases h with h | h
    · exact absurd hst h
    · rw [h] at hr
      cases hr
  · rfl

theorem leaveAirHold_of_returns {r : ResumeState} (hst : s.lineState l = .airHold)
    (hr : (s.line.get l).resume = some r) : leaveAirHold l s = enterState l r.toLineState s := by
  simp only [leaveAirHold, hst, hr]

/-- The age class of a sample (R27). -/
theorem ageClass_some (awake : Micros) (x : Sample) :
    ageClass awake (some x) = if awake - x.since ≤ 3000000 then .fresh else .held := rfl

end

/-- An event of the time base at the powered part, by what it makes of the state of its instant. -/
theorem next_timedEvent {t : Micros} {f : State → State} {s q : State} (hon : s.power.on = true)
    (hf : f (advanceTo t s) = q) :
    (.next (timedEvent t f s) : Host.Outcome State Fault Refusal) = .next (settle s q) := by
  rw [timedEvent_of_on hon, hf]

/-- Settles O20: an expiry at rest leaves the state of its instant, and a due one is its rule's change of it. -/
theorem timerExpiriesAct : Obligations.TimerExpiriesAct := by
  unfold Obligations.TimerExpiriesAct
  refine ⟨fun l t s hon => ?_, fun l t s hrun => ?_⟩
  · dsimp only
    refine ⟨fun h => ?_, fun h => ?_, fun h => ?_, fun h => ?_, fun h => ?_⟩
    all_goals refine next_timedEvent hon (if_neg (Bool.not_eq_true _ ▸ ?_))
    · exact noFlowDue_of_rests h
    · exact airHoldDue_of_rests h
    · exact timerDue_and_running_of_rests h
    · exact timerDue_and_running_of_rests h
    · exact timerDue_and_running_of_rests h
  · obtain ⟨hon, hp⟩ := hrun
    dsimp only
    have hparked : (advanceTo t s).power.parked = false := hp
    refine ⟨fun h hst => ?_, fun h hst => ?_, fun h hst => ?_, fun r h hst hr => ?_, fun h hst => ?_, fun h hst => ?_,
      fun h => ?_, fun x hx hle => ?_, rfl⟩
    · exact next_timedEvent hon (if_pos (noFlowDue_of_due hparked h hst))
    · exact next_timedEvent hon (if_pos (airHoldDue_of_due hparked h hst))
    · refine next_timedEvent hon ((if_pos (airClearDue_of_due hparked h)).trans (leaveAirHold_of_stays ?_))
      simpa [State.lineState] using hst
    · have hback := leaveAirHold_of_returns (l := l) (r := r)
        (s := (advanceTo t s).modLine l fun x => { x with airFlag := false, airClear := none })
        (by simpa [State.lineState] using hst) (by simpa using hr)
      refine next_timedEvent hon ((if_pos (airClearDue_of_due hparked h)).trans (hback.trans ?_))
      cases r <;> rfl
    · exact next_timedEvent hon ((if_pos (airSilenceDue_of_due hparked h)).trans (if_neg hst))
    · exact next_timedEvent hon ((if_pos (airSilenceDue_of_due hparked h)).trans (if_pos hst))
    · exact next_timedEvent hon (if_pos (reportDue_of_due hparked h))
    · refine ⟨_, next_timedEvent hon rfl, ⟨settle_line _ _, settle_valve _ _, settle_now _ _⟩, ?_⟩
      rw [settle_awake, settle_line, id, advanceTo_line, hx, ageClass_some]
      simp only [Micros] at *
      split <;> simp <;> omega

/-! ### Frames of the probe -/

/-- A field frame that the part hears goes to its owner, and out of holdup on to the lookup (R160, R163, R175). -/
theorem takeFieldFrame_of_heard {s : State} {f : Frame} (hrun : Running s) (hoff : s.forward.fieldOff = false)
    (hwake : s.power.wakeDelay = none) (hblock : inBlock s f = false) :
    takeFieldFrame f s =
      if (consume f s).power.holdup then consume f s else forwardFrame .fieldToCab f (consume f s) := by
  simp [takeFieldFrame, fieldHeard, hoff, hwake, hrun.notParked, hblock]

/-- A probe frame at its line (R163). -/
theorem exec_fieldFrame_of_probe {s : State} {f : Frame} {l : LineId} (hrun : Running s)
    (hoff : s.forward.fieldOff = false) (hwake : s.power.wakeDelay = none) (hblock : inBlock s f = false)
    (howner : fieldOwner s.cal f = some (.probe l)) :
    exec (.fieldFrameArrival f) s = .next (settle s (if s.power.holdup then takeProbeFrame l f.data s
      else forwardFrame .fieldToCab f (takeProbeFrame l f.data s))) := by
  have hconsume : consume f s = takeProbeFrame l f.data s := by simp only [consume, howner]
  have hpower : (takeProbeFrame l f.data s).power = s.power := by
    unfold takeProbeFrame
    split <;> rfl
  refine congrArg Host.Outcome.next ?_
  rw [event_of_on hrun.supplied, takeFieldFrame_of_heard hrun hoff hwake hblock, hconsume, hpower]

theorem takeProbeFrame_of_sample {data : List Byte} {v : Int} (h : sampleOf data = some v) (l : LineId) (s : State) :
    takeProbeFrame l data s = s.modLine l fun ln => { ln with temp := some { value := v, since := s.awake } } := by
  simp only [takeProbeFrame, h]

theorem takeProbeFrame_of_error {data : List Byte} (h : sampleOf data = none) (l : LineId) (s : State) :
    takeProbeFrame l data s = s.modLine l fun ln => { ln with probeErrors := min 65535 (ln.probeErrors + 1) } := by
  simp only [takeProbeFrame, h]
  rfl

theorem sampleOf_of_short {data : List Byte} (h : data.length < 3) : sampleOf data = none := by
  unfold sampleOf
  split
  · simp only [List.length_cons] at h
    omega
  · rfl

/-- Two bytes read as a signed value (R192). -/
theorem toSigned_two (lo hi : Byte) :
    toSigned 16 (leNat [lo, hi]) =
      if (lo.toNat + 256 * hi.toNat : Int) < 32768 then (lo.toNat + 256 * hi.toNat : Int)
      else lo.toNat + 256 * hi.toNat - 65536 := by
  rw [show leNat [lo, hi] = lo.toNat + 256 * hi.toNat from rfl, toSigned]
  split <;> split <;> omega

theorem sampleOf_cons (st lo hi : Byte) (rest : List Byte) :
    sampleOf (st :: lo :: hi :: rest) =
      if st = 0 ∧ -4000 ≤ toSigned 16 (leNat [lo, hi]) ∧ toSigned 16 (leNat [lo, hi]) ≤ 6000
      then some (toSigned 16 (leNat [lo, hi])) else none := rfl

/-- Settles O23: the bytes of the frame decide between a sample and a probe error, and the frame then goes onward. -/
theorem probeFramesSetTemperature : Obligations.ProbeFramesSetTemperature := by
  unfold Obligations.ProbeFramesSetTemperature
  intro l f s hrun hoff hwake hblock howner
  dsimp only
  rw [exec_fieldFrame_of_probe hrun hoff hwake hblock howner]
  refine ⟨fun hshort => ?_, fun st lo hi rest hdata => ?_⟩
  · rw [takeProbeFrame_of_error (sampleOf_of_short hshort)]
  · rw [← toSigned_two lo hi, hdata]
    refine ⟨fun hbad => ?_, fun hst hlo hhi => ?_⟩
    · rw [takeProbeFrame_of_error ((sampleOf_cons ..).trans (if_neg ?_))]
      rintro ⟨hst, hlo, hhi⟩
      exact hbad.elim (absurd hst) (·.elim (Int.not_lt.mpr hlo) (Int.not_lt.mpr hhi))
    · rw [takeProbeFrame_of_sample ((sampleOf_cons ..).trans (if_pos ⟨hst, hlo, hhi⟩))]

end Sys2Proof.Machine

namespace Sys2Proof.Machine

/-! ## END, and the reads of a line (R33, R37, R38, R71, R80, R81, R123, R187, R192) -/

/-! ### The amount (R38) -/

theorem amountOf_of_nonpos {billed : Volume} (h : billed ≤ 0) (price : Nat) : amountOf billed price = 0 := if_pos h

/-- The amount of a positive billed volume is the quotient rounded half up, clamped. -/
theorem amountOf_of_pos {billed : Int} (h : 0 < billed) {price q : Nat}
    (hlo : 20000 * (q : Int) ≤ 2 * (billed * price) + 10000)
    (hhi : 2 * (billed * price) + 10000 < 20000 * ((q : Int) + 1)) : amountOf billed price = min 4294967295 q := by
  have hq : divHalfUp (billed * price) 10000 = q := by
    unfold divHalfUp
    generalize billed * (price : Int) = mills at hlo hhi
    omega
  rw [amountOf, if_neg (Int.not_le.mpr h), hq, Int.toNat_natCast]

/-! ### END (R80) -/

/-- A command row at the ready port, by its owner's reply. -/
theorem takeCommand_of_reply {s q : State} {c : Command} {st : Status} {data : List Byte} (h : PortReady s)
    (hrun : runCommand c s = (q, .reply st data)) (tag : Nat) :
    takeCommand tag c s = settle s (replied c.code tag st data q) := by
  rw [takeCommand_of_ready h, hrun]
  rfl

/-- The context that END leaves, and the newest ticket number: a DELIVERY takes the next one (R123). -/
theorem endContext_eq (s : State) (d : Delivery) :
    endContext s d =
      { d with
        endTime := if s.clock.isSet then some s.clock.count else none
        ticket := if d.kind = .delivery then some (s.journal.newestTicket + 1) else d.ticket
        flags := { d.flags with clockUnset := d.flags.clockUnset || !s.clock.isSet } } := by
  unfold endContext
  cases d.kind <;> rfl

theorem endTicket_eq (s : State) (d : Delivery) :
    endTicket s d = if d.kind = .delivery then s.journal.newestTicket + 1 else s.journal.newestTicket := by
  unfold endTicket
  cases d.kind <;> rfl

/-- END of a line in a holding state. -/
theorem exec_end_of_holding {s : State} {l : LineId} {d : Delivery} (h : PortReady s) (hd : s.ctx l = some d)
    (hst : (s.lineState l).holds = true) (tag : Nat) :
    exec (.endDelivery tag (lineNumber l)) s = .next (settle s (replied 0x17 tag .ok
      (endData (endContext s d) (s.journal.newestSeq + 1)) (endLine l d s).1)) := by
  refine congrArg Host.Outcome.next (takeCommand_of_reply h ?_ tag)
  simp only [runCommand, ownerEnd, onLine, lineOfNumber_lineNumber, hd, hst, if_true]
  rfl

/-- END of a line in any other state (R71, R80). -/
theorem exec_end_of_not_holding {s : State} {l : LineId} (h : PortReady s) (hst : (s.lineState l).holds = false)
    (tag : Nat) : exec (.endDelivery tag (lineNumber l)) s = .next (settle s (replied 0x17 tag .state [] s)) := by
  refine congrArg Host.Outcome.next (takeCommand_of_reply h ?_ tag)
  simp only [runCommand, ownerEnd, onLine, lineOfNumber_lineNumber, hst, Bool.false_eq_true, if_false]
  split <;> rfl

/-- Settles O32: END of a holding line is `endLine`, whose context, record and response are those of the rules. -/
theorem endQueuesRecord : Obligations.EndQueuesRecord := by
  unfold Obligations.EndQueuesRecord
  refine ⟨fun billed price => ⟨fun h => amountOf_of_nonpos h price, fun q h hlo hhi => amountOf_of_pos h hlo hhi⟩,
    fun tag l s h hst => ?_, fun tag l d s h hd => ?_⟩
  · refine exec_end_of_not_holding h ?_ tag
    rw [LineState.holds_eq]
    exact decide_eq_false hst
  · intro holding result ticket amount ended record sequence optional hst
    have hoptional : ∀ o, optField (b4 0) b4 o = optional o := fun o => by cases o <;> rfl
    have hended : endContext s d = ended := endContext_eq s d
    have hamount : deliveryAmount ended = amount := deliveryAmount_eq ended
    have hrecord : buildRecord s l ended = record := by
      unfold buildRecord
      rw [hamount]
      rfl
    have hdata : endData ended sequence = b1 (ticket.isSome.toNat + 2 * amount.isSome.toNat) ++ optional ticket
        ++ b4 sequence ++ s4 d.billed ++ optional amount := by
      unfold endData
      rw [hamount, hoptional, hoptional]
      rfl
    have hline : (endLine l d s).1 = enterState l .closing
        { s.modCtx l (fun _ => ended) with
          journal := requestWrite (.line l) (.delivery record)
            { s.journal with
              newestTicket := if d.kind = .delivery then s.journal.newestTicket + 1 else s.journal.newestTicket } } := by
      rw [← hrecord, ← hended, ← endTicket_eq]
      rfl
    show exec _ _ = _
    rw [exec_end_of_holding h hd (by rw [LineState.holds_eq]; exact decide_eq_true hst), hended, hdata, hline]
    rfl

/-! ### The bytes of the line status (R187, R192) -/

/-- The bit of a presence mask (R192; entry 29). -/
theorem testBit_presence (bs : List Bool) (n : Nat) : (presence bs).testBit n = bs.getD n false := by
  induction bs generalizing n with
  | nil => simp [presence]
  | cons b bs ih =>
    cases n with
    | zero => cases b <;> simp [presence, Nat.testBit_zero, Nat.add_mod]
    | succ n =>
      have hdiv : (b.toNat + 2 * presence bs) / 2 = presence bs := by
        have := b.toNat_lt
        omega
      rw [presence, Nat.testBit_succ, hdiv, ih, List.getD_cons_succ]

/-- The delivery flags are coded as a mask of all nine (R192). -/
theorem Flags.code_eq_presence (f : Flags) :
    f.code = presence [f.calUnlocked, f.tempHeld, f.tempAbsent, f.interrupted, f.clockUnset, f.airSeen,
      f.airUnmonitored, f.lateFlow, f.vcfClamped] := by
  simp only [Flags.code, presence]
  omega

@[simp] theorem leBytes_length (width n : Nat) : (leBytes width n).length = width := by
  induction width generalizing n with
  | zero => rfl
  | succ k ih => rw [leBytes, List.length_cons, ih]

@[simp] theorem b1_length (n : Nat) : (b1 n).length = 1 := leBytes_length 1 n

@[simp] theorem b2_length (n : Nat) : (b2 n).length = 2 := leBytes_length 2 n

@[simp] theorem b4_length (n : Nat) : (b4 n).length = 4 := leBytes_length 4 n

@[simp] theorem s2_length (x : Int) : (s2 x).length = 2 := by
  unfold s2
  split <;> exact b2_length _

@[simp] theorem s4_length (x : Int) : (s4 x).length = 4 := by
  unfold s4
  split <;> exact b4_length _

@[simp] theorem s4Clamped_length (x : Int) : (s4Clamped x).length = 4 := b4_length _

@[simp] theorem optCode_length {α : Type} (f : α → Nat) (o : Option α) : (optCode f o).length = 1 := by
  cases o <;> exact b1_length _

/-- An optional field takes its width, absent too (R192). -/
theorem optField_length {α : Type} {zero : List Byte} {f : α → List Byte} {n : Nat} (hzero : zero.length = n)
    (hf : ∀ a, (f a).length = n) (o : Option α) : (optField zero f o).length = n := by
  cases o
  · exact hzero
  · exact hf _

@[simp] theorem contextVolume_length (ctx : Option Delivery) (f : Delivery → Volume) :
    (contextVolume ctx f).length = 4 := optField_length (b4_length 0) (fun _ => s4Clamped_length _) ctx

/-- Bytes 0 to 46 of the line status (R187). -/
theorem lineStatusBytes_length (s : State) (l : LineId) : (lineStatusBytes s l).length = 47 := by
  unfold lineStatusBytes
  simp only [List.length_append, b1_length, b2_length, s4Clamped_length, optCode_length, contextVolume_length]
  rw [optField_length (b2_length 0) fun _ => b2_length _, optField_length (b2_length 0) fun _ => s2_length _,
    optField_length (b1_length 0) fun _ => b1_length _, optField_length (b4_length 0) b4_length,
    optField_length (b4_length 0) s4_length, optField_length (b4_length 0) b4_length]

/-- The line status frame: its bytes are padded to 48 (R187, R192). -/
theorem lineStatusFrame_eq (s : State) (l : LineId) :
    lineStatusFrame s l =
      { extended := true, ident := 0x0B3C0000 + 16 * s.port.address + lineNumber l + 1, fd := true, brs := true,
        data := lineStatusBytes s l ++ [0] } := by
  have hpad : padData (lineStatusBytes s l) = lineStatusBytes s l ++ [0] := by
    rw [padData, lineStatusBytes_length]
    rfl
  rw [lineStatusFrame, ownCabFrame, hpad, blockStart]
  cases l <;> rfl

/-- The line status of a line with no delivery (R187). -/
theorem lineStatusBytes_of_none {s : State} {l : LineId} (h : (s.line.get l).kept.ctx = none) :
    lineStatusBytes s l = b1 (s.line.get l).kept.state.code ++ b1 0xFF ++ b1 0xFF ++ b1 (s.valve.get l).commanded.code
      ++ optCode Position.code (s.valve.get l).reported ++ b1 (ageClass s.awake (s.line.get l).temp).code
      ++ b1 (2 * (s.line.get l).temp.isSome.toNat) ++ b2 0 ++ optField (b2 0) (fun t => s2 t.value) (s.line.get l).temp
      ++ b2 (s.pulse.get l).flow ++ b1 0 ++ b1 0 ++ b4 0 ++ b4 0 ++ b4 0 ++ b4 0 ++ b4 0 ++ b4 0 ++ b4 0
      ++ s4Clamped (s.line.get l).kept.unattended := by
  have hmask : ∀ b, presence [false, b, false, false, false] = 2 * b.toNat := fun b => by simp [presence]
  unfold lineStatusBytes
  dsimp only
  rw [h, ← hmask]
  rfl

/-- The line status of a line with a delivery (R187). -/
theorem lineStatusBytes_of_some {s : State} {l : LineId} {d : Delivery} (h : (s.line.get l).kept.ctx = some d) :
    lineStatusBytes s l = b1 (s.line.get l).kept.state.code ++ optCode StopCause.code d.stopCause
      ++ optCode StopTarget.code d.stopTarget ++ b1 (s.valve.get l).commanded.code
      ++ optCode Position.code (s.valve.get l).reported ++ b1 (ageClass s.awake (s.line.get l).temp).code
      ++ b1 (1 + 2 * (s.line.get l).temp.isSome.toNat + 4 * d.order.isSome.toNat + 8 * d.preset.isSome.toNat
        + 16 * (deliveryAmount d).isSome.toNat)
      ++ b2 d.flags.code ++ optField (b2 0) (fun t => s2 t.value) (s.line.get l).temp
      ++ b2 (s.pulse.get l).flow ++ b1 0 ++ b1 (d.compartment.val + 1) ++ s4Clamped d.gross ++ s4Clamped d.net
      ++ s4Clamped d.billed ++ s4Clamped d.unbilled ++ optField (b4 0) b4 d.order ++ optField (b4 0) s4 d.preset
      ++ optField (b4 0) b4 (deliveryAmount d) ++ s4Clamped (s.line.get l).kept.unattended := by
  have hmask : ∀ a b c e, presence [true, a, b, c, e] = 1 + 2 * a.toNat + 4 * b.toNat + 8 * c.toNat + 16 * e.toNat := by
    intro a b c e
    simp only [presence, Bool.toNat_true]
    omega
  unfold lineStatusBytes
  dsimp only
  rw [h, ← hmask]
  rfl

/-! ### Line commands that name no line (R71) -/

/-- A command that its owner runs on a line is refused at any other number before any other check (R71). -/
theorem takeCommand_of_noLine {s : State} {c : Command} {n : Nat} {f : LineId → State × Answer} (h : PortReady s)
    (hn : lineOfNumber n = none) (hrun : runCommand c s = onLine n s f) (tag : Nat) :
    takeCommand tag c s = settle s (replied c.code tag .parameter [] s) := by
  refine takeCommand_of_reply h (hrun.trans ?_) tag
  simp only [onLine, hn]
  rfl

theorem exec_readLineStatus {s : State} (h : PortReady s) (tag : Nat) (l : LineId) :
    exec (.readLineStatus tag (lineNumber l)) s = .next (settle s (replied 0x19 tag .ok
      (lineStatusBytes s l ++ b1 (s.line.get l).kept.hose.code ++ s4 (s.settings.lines.get l).closeAhead) s)) := by
  refine congrArg Host.Outcome.next (takeCommand_of_reply h ?_ tag)
  simp only [runCommand, ownerReadLineStatus, onLine, lineOfNumber_lineNumber]

theorem exec_readTotalizers {s : State} (h : PortReady s) (tag : Nat) (l : LineId) :
    exec (.readTotalizers tag (lineNumber l)) s = .next (settle s (replied 0x1A tag .ok
      (s8 (s.line.get l).kept.grossTotal ++ s8 (s.line.get l).kept.netTotal ++ s8 (s.line.get l).kept.grossRem
        ++ s8 (s.line.get l).kept.netRem ++ b4 (s.line.get l).kept.lifetimeErrors ++ b2 (s.line.get l).probeErrors
        ++ s4Clamped (s.line.get l).kept.unattended) s)) := by
  refine congrArg Host.Outcome.next (takeCommand_of_reply h ?_ tag)
  simp only [runCommand, ownerReadTotalizers, onLine, lineOfNumber_lineNumber]

/-- Settles O33: the tables of codes are evaluated, the bytes of the line status are those of its two forms, and the
commands answer through the port. -/
theorem lineReadsAnswerValues : Obligations.LineReadsAnswerValues := by
  unfold Obligations.LineReadsAnswerValues
  refine ⟨⟨rfl, rfl, rfl, rfl, rfl, rfl, rfl, rfl, rfl, rfl, rfl, rfl, rfl, ⟨rfl, rfl⟩, ⟨rfl, rfl, fun _ => rfl⟩,
    ⟨rfl, fun _ => rfl, rfl⟩, ⟨rfl, rfl, rfl, fun _ => rfl⟩, rfl, ⟨rfl, fun _ => rfl⟩,
    fun f n => by rw [Flags.code_eq_presence, testBit_presence]⟩, fun tag s h => ⟨fun l => ?_, fun n h1 h2 => ?_⟩⟩
  · intro k v temp optional position temperature age flow
    have hoptional : ∀ o, optField (b4 0) b4 o = optional o := fun o => by cases o <;> rfl
    have hposition : optCode Position.code v.reported = position := by
      simp only [position]
      cases v.reported <;> rfl
    have htemperature : optField (b2 0) (fun t : Sample => s2 t.value) temp = temperature := by
      simp only [temperature]
      cases temp <;> rfl
    have hage : b1 (ageClass s.awake temp).code = age := by
      simp only [age]
      cases temp with
      | none => rfl
      | some x =>
        show b1 (if s.awake - x.since ≤ 3000000 then AgeClass.fresh else .held).code =
          b1 (if s.awake - x.since ≤ 3000000 then 1 else 2)
        split <;> rfl
    refine ⟨fun hctx => ?_, fun d hctx => ?_, lineStatusFrame_eq s l, exec_readLineStatus h tag l,
      exec_readTotalizers h tag l⟩
    · rw [lineStatusBytes_of_none hctx, hposition, htemperature, hage]
    · intro amount
      rw [lineStatusBytes_of_some hctx, hposition, htemperature, hage, deliveryAmount_eq, hoptional, hoptional]
      cases d.stopCause <;> cases d.stopTarget <;> cases d.preset <;>
        simp only [optCode, optField, k, v, temp, flow, amount]
  · have hn := lineOfNumber_eq_none h1 h2
    refine ⟨?_, ?_, ?_, ?_, ?_, ?_, ?_, ?_⟩
    all_goals exact congrArg Host.Outcome.next (takeCommand_of_noLine h hn rfl tag)

end Sys2Proof.Machine

namespace Sys2Proof.Machine

/-! ## Accepted calibration values (R22, R40, R138 to R141) -/

/-! ### What the checks accept -/

theorem within_iff (lo hi x : Int) : within lo hi x = true ↔ lo ≤ x ∧ x ≤ hi := by
  rw [within, Bool.and_eq_true, decide_eq_true_iff, decide_eq_true_iff]

theorem inBlockRange_iff (x : Int) : inBlockRange x = true ↔ 0x0B3C0000 ≤ x ∧ x ≤ 0x0B3C03FF := within_iff ..

/-- An identifier is accepted in 29 bits, outside the range of the part's own block, and distinct from the others; a valve
identifier with the one after it (R139). -/
theorem identifierFits_iff (c : Calibration) (sel : ItemSel) (valve : Bool) (x : Int) :
    identifierFits c sel valve x = true ↔
      (0 ≤ x ∧ x ≤ 0x1FFFFFFF ∧ ¬(0x0B3C0000 ≤ x ∧ x ≤ 0x0B3C03FF) ∧
        (protectedSet (setItem c sel (.int x))).Nodup) ∧
      (valve = true → x ≠ 0x1FFFFFFF ∧ ¬(0x0B3C0000 ≤ x + 1 ∧ x + 1 ≤ 0x0B3C03FF)) := by
  rw [← inBlockRange_iff, ← inBlockRange_iff]
  unfold identifierFits
  cases valve <;> simp only [Bool.and_eq_true, decide_eq_true_eq, Bool.not_eq_true', Bool.false_and, Bool.true_and,
    decide_eq_false_iff_not, Bool.not_eq_true] <;> tauto

/-- A band write is accepted where its bound lies between its neighbours' and its values in their ranges (R140). -/
theorem bandFits_iff (bands : List Band) (i lower : Nat) (correction : Int) :
    bandFits bands i lower correction = true ↔
      i ≤ bands.length ∧ ¬(i = bands.length ∧ bands.length = 6) ∧ -50000 ≤ correction ∧ correction ≤ 50000 ∧
        lower ≤ 65535 ∧ (i = 0 → lower = 0) ∧ (∀ b, 0 < i → bands[i - 1]? = some b → b.lower < lower) ∧
        (∀ b, bands[i + 1]? = some b → lower < b.lower) := by
  unfold bandFits
  simp only [Bool.and_eq_true, Bool.not_eq_true', Bool.and_eq_false_iff, decide_eq_true_eq, decide_eq_false_iff_not]
  cases hb : bands[i - 1]? <;> cases ha : bands[i + 1]? <;> by_cases hi : i = 0 <;> simp [hi] <;> omega

/-! ### A lawful set stays lawful -/

/-- An identifier in 29 bits outside the range of the part's own block (R139). -/
def identifierLawful (n : Nat) : Prop := n ≤ 0x1FFFFFFF ∧ ¬(0x0B3C0000 ≤ n ∧ n ≤ 0x0B3C03FF)

theorem mem_protectedSet (c : Calibration) (n : Nat) :
    n ∈ protectedSet c ↔ (∃ l, n ∈ lineIdentifiers (c.lines.get l)) ∨ n = c.pumpStopId := by
  have hl : (∃ l, n ∈ lineIdentifiers (c.lines.get l)) ↔
      n ∈ lineIdentifiers c.lines.line1 ∨ n ∈ lineIdentifiers c.lines.line2 :=
    ⟨fun ⟨l, h⟩ => by cases l; exacts [.inl h, .inr h], fun h => h.elim (⟨.line1, ·⟩) (⟨.line2, ·⟩)⟩
  rw [hl, protectedSet, List.mem_append, List.mem_append, List.mem_singleton]

/-- The laws of the set, by line (R138 to R140). -/
theorem Calibration.lawful_iff (c : Calibration) :
    c.lawful ↔ (∀ l, (c.lines.get l).lawful) ∧ (∀ i : ProductNo, c.products[i].lawful) ∧ (protectedSet c).Nodup ∧
      (∀ l, ∀ n ∈ lineIdentifiers (c.lines.get l), identifierLawful n) ∧ identifierLawful c.pumpStopId := by
  constructor
  · rintro ⟨h1, h2, hprod, hnodup, hid⟩
    refine ⟨fun l => ?_, hprod, hnodup, fun l n hn => hid n ((mem_protectedSet c n).mpr (.inl ⟨l, hn⟩)),
      hid _ ((mem_protectedSet c _).mpr (.inr rfl))⟩
    cases l
    exacts [h1, h2]
  · rintro ⟨hlines, hprod, hnodup, hid, hpump⟩
    refine ⟨hlines .line1, hlines .line2, hprod, hnodup, fun n hn => ?_⟩
    rcases (mem_protectedSet c n).mp hn with ⟨l, hl⟩ | rfl
    · exact hid l n hl
    · exact hpump

section
variable {c : Calibration} (h : c.lawful)
include h

/-- One line's items changed: the line stays lawful, and its identifiers are lawful and distinct from the others. -/
theorem lawful_modLine {l : LineId} {f : LineCalibration → LineCalibration} (hf : (f (c.lines.get l)).lawful)
    (hid : ∀ n ∈ lineIdentifiers (f (c.lines.get l)), identifierLawful n)
    (hnodup : (protectedSet (c.modLine l f)).Nodup) : (c.modLine l f).lawful := by
  obtain ⟨hlines, hprod, -, hids, hpump⟩ := c.lawful_iff.mp h
  refine (Calibration.lawful_iff _).mpr ⟨fun m => ?_, hprod, hnodup, fun m => ?_, hpump⟩
  · rw [Calibration.modLine_lines_get]
    split
    · exact hf
    · exact hlines m
  · rw [Calibration.modLine_lines_get]
    split
    · exact hid
    · exact hids m

/-- One line's items changed, its identifiers kept. -/
theorem lawful_modLine_of_kept {l : LineId} {f : LineCalibration → LineCalibration} (hf : (f (c.lines.get l)).lawful)
    (hid : lineIdentifiers (f (c.lines.get l)) = lineIdentifiers (c.lines.get l) := by rfl) : (c.modLine l f).lawful := by
  obtain ⟨-, -, hnodup, hids, -⟩ := c.lawful_iff.mp h
  refine lawful_modLine h hf (by rw [hid]; exact hids l) ?_
  have hset : protectedSet (c.modLine l f) = protectedSet c := by
    cases l
    · exact congrArg (· ++ lineIdentifiers c.lines.line2 ++ [c.pumpStopId]) hid
    · exact congrArg (lineIdentifiers c.lines.line1 ++ · ++ [c.pumpStopId]) hid
  rw [hset]
  exact hnodup

theorem lawful_modProduct {p : ProductNo} {f : Product → Product} (hf : (f c.products[p]).lawful) :
    (c.modProduct p f).lawful := by
  obtain ⟨hlines, hprod, hnodup, hids, hpump⟩ := c.lawful_iff.mp h
  refine (Calibration.lawful_iff _).mpr ⟨hlines, fun q => ?_, hnodup, hids, hpump⟩
  rw [Calibration.modProduct_products]
  split
  · exact hf
  · exact hprod q

end

/-! ### The band table (R22, R140) -/

/-- The band-table part of a line's laws. -/
def bandsLawful (bands : List Band) : Prop :=
  (1 ≤ bands.length ∧ bands.length ≤ 6) ∧ (∀ b, bands.head? = some b → b.lower = 0) ∧
    bands.Pairwise (fun a b => a.lower < b.lower) ∧
    ∀ b ∈ bands, b.lower ≤ 65535 ∧ -50000 ≤ b.correction ∧ b.correction ≤ 50000

theorem LineCalibration.lawful_iff (x : LineCalibration) :
    x.lawful ↔ (x.k = 0 ∨ (10 ≤ x.k ∧ x.k ≤ 2000)) ∧ bandsLawful x.bands ∧
      (1 ≤ x.integrityLimit ∧ x.integrityLimit ≤ 64) ∧ x.reverseLimit ≤ 5000 ∧ x.hoseVolume ≤ 200000 := by
  unfold lawful bandsLawful
  tauto

/-- The first entries of a lawful table are one. -/
theorem bandsLawful_take {bands : List Band} (h : bandsLawful bands) {n : Nat} (hn : 1 ≤ n) :
    bandsLawful (bands.take n) := by
  obtain ⟨⟨hlo, hhi⟩, hhead, hrise, hrange⟩ := h
  refine ⟨?_, fun b hb => hhead b ?_, hrise.sublist (List.take_sublist n bands),
    fun b hb => hrange b (List.mem_of_mem_take hb)⟩
  · rw [List.length_take]
    omega
  · rwa [List.head?_take, if_neg (by omega)] at hb

/-- The bounds rise along the places of a table. -/
theorem bands_rise_iff (bands : List Band) :
    bands.Pairwise (fun a b => a.lower < b.lower) ↔
      ∀ (i j : Nat) (a b : Band), i < j → bands[i]? = some a → bands[j]? = some b → a.lower < b.lower := by
  rw [List.pairwise_iff_getElem]
  constructor
  · intro h i j a b hij ha hb
    obtain ⟨hi, rfl⟩ := List.getElem?_eq_some_iff.mp ha
    obtain ⟨hj, rfl⟩ := List.getElem?_eq_some_iff.mp hb
    exact h i j hi hj hij
  · intro h i j hi hj hij
    exact h i j _ _ hij (List.getElem?_eq_getElem hi) (List.getElem?_eq_getElem hj)

/-- An accepted entry fits between the bounds of a rising table (R140). -/
theorem writeBand_rises {bands : List Band} {i : Nat} {e : Band} (hi : i ≤ bands.length)
    (hrise : bands.Pairwise fun a b => a.lower < b.lower)
    (hbefore : ∀ b, 0 < i → bands[i - 1]? = some b → b.lower < e.lower)
    (hafter : ∀ b, bands[i + 1]? = some b → e.lower < b.lower) :
    (writeBand i e bands).Pairwise fun a b => a.lower < b.lower := by
  rw [bands_rise_iff] at hrise ⊢
  intro p q a b hpq ha hb
  rw [writeBand_getElem? e hi] at ha hb
  split at ha <;> split at hb
  · omega
  · next hp hq =>
    cases ha
    have hnext : i + 1 < bands.length := by
      have := (List.getElem?_eq_some_iff.mp hb).1
      omega
    have hz := List.getElem?_eq_getElem hnext
    rcases Nat.lt_or_ge (i + 1) q with hlt | hge
    · exact (hafter _ hz).trans (hrise _ _ _ _ hlt hz hb)
    · obtain rfl : q = i + 1 := by omega
      exact hafter b hb
  · next hp hq =>
    cases hb
    have hprev : i - 1 < bands.length := by omega
    have hz := List.getElem?_eq_getElem hprev
    rcases Nat.lt_or_ge p (i - 1) with hlt | hge
    · exact (hrise _ _ _ _ hlt ha hz).trans (hbefore _ (by omega) hz)
    · obtain rfl : p = i - 1 := by omega
      exact hbefore a (by omega) ha
  · exact hrise _ _ _ _ hpq ha hb

theorem bandsLawful_writeBand {bands : List Band} (h : bandsLawful bands) {i lower : Nat} {correction : Int}
    (hi : i < 6) (hfit : bandFits bands i lower correction = true) :
    bandsLawful (writeBand i { lower := lower, correction := correction } bands) := by
  obtain ⟨⟨hlo, hhi⟩, hhead, hrise, hrange⟩ := h
  obtain ⟨hle, hroom, hclo, hchi, hlower, hfirst, hbefore, hafter⟩ := (bandFits_iff ..).mp hfit
  refine ⟨?_, fun b hb => ?_, writeBand_rises hle hrise hbefore hafter, fun b hb => ?_⟩
  · rw [writeBand_length _ hle]
    omega
  · rw [List.head?_eq_getElem?, writeBand_getElem? _ hle] at hb
    split at hb
    · next h0 =>
      cases hb
      exact hfirst h0
    · exact hhead b (List.head?_eq_getElem? ▸ hb)
  · obtain ⟨j, hj⟩ := List.mem_iff_getElem?.mp hb
    rw [writeBand_getElem? _ hle] at hj
    split at hj
    · cases hj
      exact ⟨hlower, hclo, hchi⟩
    · exact hrange b (List.mem_of_getElem? hj)

/-! ### An accepted value keeps the set lawful -/

theorem identifierLawful_of_fits {c : Calibration} {sel : ItemSel} {valve : Bool} {x : Int}
    (hfit : identifierFits c sel valve x = true) : identifierLawful x.toNat := by
  obtain ⟨⟨hlo, hhi, hblock, -⟩, -⟩ := (identifierFits_iff ..).mp hfit
  unfold identifierLawful
  omega

section
variable {c : Calibration} (h : c.lawful)
include h

/-- A band table of a line replaced by a lawful one. -/
theorem lawful_setBands {l : LineId} {f : List Band → List Band} (hf : bandsLawful (f (c.lines.get l).bands)) :
    (c.modLine l fun x => { x with bands := f x.bands }).lawful := by
  obtain ⟨hlines, -⟩ := c.lawful_iff.mp h
  obtain ⟨hk, -, hint, hrev, hhose⟩ := (LineCalibration.lawful_iff _).mp (hlines l)
  exact lawful_modLine_of_kept h ((LineCalibration.lawful_iff _).mpr ⟨hk, hf, hint, hrev, hhose⟩)

/-- An accepted identifier of a line. -/
theorem lawful_setIdentifier {l : LineId} {f : LineCalibration → LineCalibration} {sel : ItemSel} {valve : Bool} {x : Int}
    (hfit : identifierFits c sel valve x = true) (hset : setItem c sel (.int x) = c.modLine l f)
    (hf : (c.lines.get l).lawful → (f (c.lines.get l)).lawful)
    (hid : ∀ n ∈ lineIdentifiers (f (c.lines.get l)),
      n ∈ lineIdentifiers (c.lines.get l) ∨ n = x.toNat ∨ (valve = true ∧ n = x.toNat + 1)) :
    (setItem c sel (.int x)).lawful := by
  obtain ⟨hlines, -, -, hids, -⟩ := c.lawful_iff.mp h
  obtain ⟨⟨hlo, hhi, -, hnodup⟩, hvalve⟩ := (identifierFits_iff ..).mp hfit
  rw [hset] at hnodup ⊢
  refine lawful_modLine h (hf (hlines l)) (fun n hn => ?_) hnodup
  rcases hid n hn with hold | rfl | ⟨hv, rfl⟩
  · exact hids l n hold
  · exact identifierLawful_of_fits hfit
  · obtain ⟨hne, hblock⟩ := hvalve hv
    unfold identifierLawful
    omega

/-- R139 and R140 with the ranges of R138: an accepted value leaves the set lawful. -/
theorem setItem_lawful {sel : ItemSel} {v : CalValue} (hfit : itemFits c sel v = true) : (setItem c sel v).lawful := by
  obtain ⟨hlines, hprod, hnodup, hids, -⟩ := c.lawful_iff.mp h
  have hline := fun l => (LineCalibration.lawful_iff _).mp (hlines l)
  cases v with
  | lock _ _ _ => cases sel <;> cases hfit
  | band lower correction used =>
    cases sel
    case band l i =>
      obtain ⟨-, hbands, -⟩ := hline l
      exact lawful_setBands h (bandsLawful_writeBand hbands i.isLt hfit)
    all_goals cases hfit
  | int x =>
    cases sel
    case kFactor l =>
      obtain ⟨-, hrest⟩ := hline l
      have hx : x = 0 ∨ 10 ≤ x ∧ x ≤ 2000 := by simpa [itemFits, within_iff] using hfit
      refine lawful_modLine_of_kept h ((LineCalibration.lawful_iff _).mpr ⟨?_, hrest⟩)
      show x.toNat = 0 ∨ 10 ≤ x.toNat ∧ x.toNat ≤ 2000
      omega
    case bandCount l =>
      obtain ⟨-, hbands, -⟩ := hline l
      have hx : (1 ≤ x ∧ x ≤ 6) ∧ x ≤ (c.lines.get l).bands.length := by simpa [itemFits, within_iff] using hfit
      exact lawful_setBands h (f := List.take x.toNat) (bandsLawful_take hbands (by omega))
    case band l i => cases hfit
    case integrityLimit l =>
      obtain ⟨hk, hbands, -, hrest⟩ := hline l
      have hx := (within_iff 1 64 x).mp hfit
      refine lawful_modLine_of_kept h ((LineCalibration.lawful_iff _).mpr ⟨hk, hbands, ?_, hrest⟩)
      show 1 ≤ x.toNat ∧ x.toNat ≤ 64
      omega
    case reverseLimit l =>
      obtain ⟨hk, hbands, hint, -, hhose⟩ := hline l
      have hx := (within_iff 0 5000 x).mp hfit
      exact lawful_modLine_of_kept h
        ((LineCalibration.lawful_iff _).mpr ⟨hk, hbands, hint, show x.toNat ≤ 5000 by omega, hhose⟩)
    case hoseVolume l =>
      obtain ⟨hk, hbands, hint, hrev, -⟩ := hline l
      have hx := (within_iff 0 200000 x).mp hfit
      exact lawful_modLine_of_kept h
        ((LineCalibration.lawful_iff _).mpr ⟨hk, hbands, hint, hrev, show x.toNat ≤ 200000 by omega⟩)
    case valveId l =>
      exact lawful_setIdentifier h (f := fun y => { y with valveId := x.toNat }) hfit rfl id
        (by simp [lineIdentifiers])
    case probeId l =>
      exact lawful_setIdentifier h (f := fun y => { y with probeId := x.toNat }) hfit rfl id
        (by simp [lineIdentifiers])
    case airId l =>
      exact lawful_setIdentifier h (f := fun y => { y with airId := x.toNat }) hfit rfl id
        (by simp [lineIdentifiers])
    case pumpStopId =>
      obtain ⟨⟨-, -, -, hnodup'⟩, -⟩ := (identifierFits_iff ..).mp hfit
      exact (Calibration.lawful_iff _).mpr ⟨hlines, hprod, hnodup', hids, identifierLawful_of_fits hfit⟩
    case defined p => exact lawful_modProduct h (hprod p)
    case alpha p =>
      obtain ⟨-, hrest⟩ := hprod p
      have hx := (within_iff 0 2000 x).mp hfit
      exact lawful_modProduct h ⟨show x.toNat ≤ 2000 by omega, hrest⟩
    case beta p =>
      obtain ⟨halpha, -, htref⟩ := hprod p
      have hx := (within_iff 0 5000 x).mp hfit
      exact lawful_modProduct h ⟨halpha, show x.toNat ≤ 5000 by omega, htref⟩
    case tref p =>
      obtain ⟨halpha, hbeta, -⟩ := hprod p
      exact lawful_modProduct h ⟨halpha, hbeta, (within_iff (-1000) 3000 x).mp hfit⟩
    case basis p => exact lawful_modProduct h (hprod p)

end

theorem factory_lawful : Calibration.factory.lawful := by
  refine (Calibration.lawful_iff _).mpr ⟨fun l => ?_, fun i => ?_, by decide, fun l => ?_,
    by simp [identifierLawful, Calibration.factory]⟩
  · cases l <;> simp [LineCalibration.lawful, Calibration.factory, PerLine.get, LineCalibration.factory]
  · simp [Calibration.factory, Product.lawful, Product.factory]
  · cases l <;> simp [Calibration.factory, PerLine.get, LineCalibration.factory, lineIdentifiers, identifierLawful]

/-! ### What an accepted value changes (R141) -/

/-- The line that an item belongs to (R138). -/
def itemLine : ItemSel → Option LineId
  | .kFactor l | .bandCount l | .band l _ | .integrityLimit l | .reverseLimit l | .hoseVolume l | .valveId l
  | .probeId l | .airId l => some l
  | _ => none

/-- The product record that an item belongs to (R138). -/
def itemProduct : ItemSel → Option ProductNo
  | .defined p | .alpha p | .beta p | .tref p | .basis p => some p
  | _ => none

/-- The value of an item in the items of its line; that of an item of no line does not matter (`itemValue_of_line`). -/
def lineRead (x : LineCalibration) : ItemSel → CalValue
  | .kFactor _ => .int x.k
  | .bandCount _ => .int x.bands.length
  | .band _ i =>
    match x.bands[i.val]? with
    | some b => .band b.lower b.correction true
    | none => .band 0 0 false
  | .integrityLimit _ => .int x.integrityLimit
  | .reverseLimit _ => .int x.reverseLimit
  | .hoseVolume _ => .int x.hoseVolume
  | .valveId _ => .int x.valveId
  | .probeId _ => .int x.probeId
  | .airId _ => .int x.airId
  | _ => .int 0

/-- The value of an item in its product record; that of an item of none does not matter (`itemValue_of_product`). -/
def productRead (x : Product) : ItemSel → CalValue
  | .defined _ => .int x.defined.toNat
  | .alpha _ => .int x.alpha
  | .beta _ => .int x.beta
  | .tref _ => .int x.tref
  | .basis _ => .int x.basis.code
  | _ => .int 0

theorem itemValue_of_line {sel : ItemSel} {l : LineId} (h : itemLine sel = some l) (c : Calibration) :
    itemValue c sel = lineRead (c.lines.get l) sel := by
  cases sel <;> cases h
  case band i =>
    cases hb : (c.lines.get l).bands[i.val]? <;> simp only [itemValue, lineRead, hb]
  all_goals rfl

theorem itemValue_of_product {sel : ItemSel} {p : ProductNo} (h : itemProduct sel = some p) (c : Calibration) :
    itemValue c sel = productRead c.products[p] sel := by
  cases sel <;> cases h <;> rfl

/-- A change of one line's items is seen by the items of that line alone. -/
theorem itemValue_modLine (c : Calibration) (l : LineId) {f : LineCalibration → LineCalibration} {sel : ItemSel}
    (h : itemLine sel = some l → lineRead (f (c.lines.get l)) sel = lineRead (c.lines.get l) sel) :
    itemValue (c.modLine l f) sel = itemValue c sel := by
  cases hm : itemLine sel with
  | none =>
    cases sel
    case pumpStopId | defined | alpha | beta | tref | basis => rfl
    all_goals cases hm
  | some m =>
    rw [itemValue_of_line hm, itemValue_of_line hm, Calibration.modLine_lines_get]
    split
    · next e => rw [h (e ▸ hm), e]
    · rfl

/-- A change of a product record is seen by the items of that record alone. -/
theorem itemValue_modProduct (c : Calibration) (p : ProductNo) {f : Product → Product} {sel : ItemSel}
    (h : itemProduct sel = some p → productRead (f c.products[p]) sel = productRead c.products[p] sel) :
    itemValue (c.modProduct p f) sel = itemValue c sel := by
  cases hq : itemProduct sel with
  | none =>
    cases sel
    case defined | alpha | beta | tref | basis => cases hq
    all_goals rfl
  | some q =>
    rw [itemValue_of_product hq, itemValue_of_product hq, Calibration.modProduct_products]
    split
    · next e => subst e; exact h hq
    · rfl

theorem setItem_eventCount (c : Calibration) (sel : ItemSel) (v : CalValue) :
    (setItem c sel v).eventCount = c.eventCount := by
  unfold setItem
  split <;> rfl

/-- An integer other than a used count changes its own item alone: another item is another field, or the same field of
another line or product. -/
theorem itemValue_setItem_int {sel other : ItemSel} (hne : other ≠ sel) (hcount : ∀ l, sel ≠ .bandCount l)
    (c : Calibration) (x : Int) : itemValue (setItem c sel (.int x)) other = itemValue c other := by
  cases sel
  case bandCount l => exact absurd rfl (hcount l)
  case band l i => rfl
  case pumpStopId =>
    cases other
    case pumpStopId => exact absurd rfl hne
    all_goals rfl
  case defined p | alpha p | beta p | tref p | basis p =>
    refine itemValue_modProduct c p fun hp => ?_
    cases other <;> simp_all [itemProduct, productRead]
  all_goals
    refine itemValue_modLine c _ fun hl => ?_
    cases other <;> simp_all [itemLine, lineRead]

/-- A change of the band table is seen by the used count and the entries of its line alone. -/
theorem itemValue_setBands {sel : ItemSel} {l : LineId} (hcount : sel ≠ .bandCount l) (hband : ∀ i, sel ≠ .band l i)
    (c : Calibration) (f : List Band → List Band) :
    itemValue (c.modLine l fun x => { x with bands := f x.bands }) sel = itemValue c sel := by
  refine itemValue_modLine c l fun hl => ?_
  cases sel <;> cases hl
  case bandCount => exact absurd rfl hcount
  case band i => exact absurd rfl (hband i)
  all_goals rfl

/-! ### The item itself reads the accepted value -/

/-- R141: an accepted integer is what its item then reads; no range of an unsigned item holds a negative value. -/
theorem itemValue_setItem_same {c : Calibration} {sel : ItemSel} {x : Int} (hfit : itemFits c sel (.int x) = true) :
    itemValue (setItem c sel (.int x)) sel = .int x := by
  cases sel
  case band l i => cases hfit
  case kFactor l =>
    have hx : x = 0 ∨ 10 ≤ x ∧ x ≤ 2000 := by simpa [itemFits, within_iff] using hfit
    simp only [setItem, itemValue, Calibration.modLine_lines_get, if_true, CalValue.int.injEq]
    omega
  case bandCount l =>
    have hx : (1 ≤ x ∧ x ≤ 6) ∧ x ≤ (c.lines.get l).bands.length := by simpa [itemFits, within_iff] using hfit
    simp only [setItem, itemValue, Calibration.modLine_lines_get, if_true, CalValue.int.injEq, List.length_take]
    omega
  case integrityLimit l | reverseLimit l | hoseVolume l =>
    have hx := (within_iff _ _ x).mp hfit
    simp only [setItem, itemValue, Calibration.modLine_lines_get, if_true, CalValue.int.injEq]
    omega
  case valveId l | probeId l | airId l | pumpStopId =>
    obtain ⟨⟨hx, -⟩, -⟩ := (identifierFits_iff ..).mp hfit
    simp [setItem, itemValue, hx]
  case alpha p | beta p =>
    have hx := (within_iff _ _ x).mp hfit
    simp only [setItem, itemValue, Calibration.modProduct_products, if_true, CalValue.int.injEq]
    omega
  case tref p => simp only [setItem, itemValue, Calibration.modProduct_products, if_true]
  case defined p | basis p =>
    have hx := (within_iff 0 1 x).mp hfit
    obtain rfl | rfl : x = 0 ∨ x = 1 := by omega
    all_goals
      simp only [setItem, itemValue, Calibration.modProduct_products, if_true]
      rfl

/-! ### The other items after an entry or a used count (R140) -/

theorem itemValue_band (c : Calibration) (l : LineId) (i : Fin 6) (b : Option Band)
    (h : (c.lines.get l).bands[i.val]? = b) :
    itemValue c (.band l i) = b.elim (.band 0 0 false) fun b => .band b.lower b.correction true := by
  subst h
  cases hb : (c.lines.get l).bands[i.val]? <;> simp only [itemValue, hb, Option.elim]

theorem itemValue_writeBand_same {c : Calibration} {l : LineId} {i : Fin 6} {lower : Nat} {correction : Int} {used : Bool}
    (hle : i.val ≤ (c.lines.get l).bands.length) :
    itemValue (setItem c (.band l i) (.band lower correction used)) (.band l i) = .band lower correction true := by
  refine itemValue_band _ l i (some { lower := lower, correction := correction }) ?_
  simp [setItem, writeBand_getElem? _ hle]

/-- An accepted entry raises the used count of its line where it is appended, and changes no other item. -/
theorem itemValue_writeBand_other {c : Calibration} {l : LineId} {i : Fin 6} {lower : Nat} {correction : Int} {used : Bool}
    (hle : i.val ≤ (c.lines.get l).bands.length) {other : ItemSel} (hne : other ≠ .band l i) :
    itemValue (setItem c (.band l i) (.band lower correction used)) other =
      if other = .bandCount l then .int (max (c.lines.get l).bands.length (i.val + 1) : Nat)
      else itemValue c other := by
  split
  · next e =>
    subst e
    simp only [setItem, itemValue, Calibration.modLine_lines_get, if_true, writeBand_length _ hle]
  · next hcount =>
    refine itemValue_modLine c l fun hl => ?_
    cases other <;> cases hl
    case bandCount => exact absurd rfl hcount
    case band j =>
      have hij : i.val ≠ j.val := fun e => hne (congrArg _ (Fin.ext e.symm))
      simp only [lineRead, writeBand_getElem? _ hle, if_neg hij]
    all_goals rfl

/-- An accepted used count cuts the entries beyond it off, and changes no other item. -/
theorem itemValue_bandCount_band {c : Calibration} {l m : LineId} {x : Int} (hx : 0 ≤ x) (j : Fin 6) :
    itemValue (setItem c (.bandCount l) (.int x)) (.band m j) =
      if l = m ∧ x ≤ j.val then .band 0 0 false else itemValue c (.band m j) := by
  by_cases hlm : l = m
  · subst hlm
    have hget : ((setItem c (.bandCount l) (.int x)).lines.get l).bands[j.val]? =
        if j.val < x.toNat then (c.lines.get l).bands[j.val]? else none := by
      simp [setItem, List.getElem?_take]
    rw [itemValue_band _ l j _ hget, itemValue_band c l j _ rfl]
    by_cases hj : x ≤ j.val
    · rw [if_neg (by omega), if_pos ⟨rfl, hj⟩]
      rfl
    · rw [if_pos (by omega), if_neg fun h => hj h.2]
  · rw [if_neg fun h => hlm h.1]
    exact itemValue_modLine c l (sel := .band m j) fun hl => absurd (Option.some.inj hl).symm hlm

/-! ### O42 -/

/-- Settles O42: each law of the set speaks of one line's items, one product's or the nine identifiers, and an item is a
field of one of them. -/
theorem acceptedValuesKeepCalibrationLawful : Obligations.AcceptedValuesKeepCalibrationLawful := by
  unfold Obligations.AcceptedValuesKeepCalibrationLawful
  refine ⟨factory_lawful, fun c sel v h hfit => setItem_lawful h hfit, fun c sel v => ?_, fun c sel v hfit => ?_⟩
  · cases v with
    | lock _ _ _ => cases sel <;> exact Bool.false_eq_true ▸ Iff.rfl
    | band lower correction used =>
      cases sel
      case band l i => exact bandFits_iff ..
      all_goals exact Bool.false_eq_true ▸ Iff.rfl
    | int x =>
      cases sel
      case band l i => exact Bool.false_eq_true ▸ Iff.rfl
      case kFactor l => simp [itemFits, within_iff]
      case bandCount l => simp [itemFits, within_iff, and_assoc]
      case valveId l => exact (identifierFits_iff c (.valveId l) true x).trans (and_congr_right' (forall_prop_of_true rfl))
      case probeId l | airId l | pumpStopId =>
        exact (identifierFits_iff c _ false x).trans (and_iff_left nofun)
      case defined p | basis p => exact (within_iff 0 1 x).trans (by omega)
      all_goals exact within_iff ..
  · refine ⟨setItem_eventCount c sel v, ?_⟩
    cases v with
    | lock _ _ _ => cases sel <;> cases hfit
    | band lower correction used =>
      cases sel
      case band l i =>
        obtain ⟨hle, -⟩ := (bandFits_iff ..).mp hfit
        refine ⟨itemValue_writeBand_same hle, fun other hne => (itemValue_writeBand_other hle hne).trans ?_⟩
        cases other
        case bandCount m => simp [eq_comm]
        all_goals rfl
      all_goals cases hfit
    | int x =>
      refine ⟨itemValue_setItem_same hfit, fun other hne => ?_⟩
      cases sel
      case band l i => cases hfit
      case bandCount l =>
        have hx : (1 ≤ x ∧ x ≤ 6) ∧ x ≤ (c.lines.get l).bands.length := by simpa [itemFits, within_iff] using hfit
        cases other
        case band m j => exact itemValue_bandCount_band (by omega) j
        all_goals exact itemValue_setBands hne nofun c _
      all_goals exact itemValue_setItem_int hne nofun c x

end Sys2Proof.Machine

namespace Sys2Proof.Machine

/-! ## The orders' commands (R57, R59 to R61) -/

/-! ### An order by its number (R57) -/

theorem findOrder_eq_none_iff {orders : List Order} {number : Nat} :
    findOrder orders number = none ↔ ¬∃ o ∈ orders, o.number = number := by
  simp [findOrder]

theorem findOrder_spec {orders : List Order} {number : Nat} {o : Order} (h : findOrder orders number = some o) :
    o ∈ orders ∧ o.number = number :=
  ⟨List.mem_of_find?_eq_some h, by simpa using List.find?_some h⟩

theorem findOrder_isSome_iff {orders : List Order} {number : Nat} :
    (findOrder orders number).isSome = true ↔ ∃ o ∈ orders, o.number = number := by
  rw [Option.isSome_iff_ne_none, Ne, findOrder_eq_none_iff, not_not]

/-! ### LOAD ORDER (R59) -/

theorem productOfNumber_eq_some_iff {n : Nat} {p : ProductNo} : productOfNumber n = some p ↔ p.val + 1 = n := by
  refine ⟨fun h => ?_, fun h => h ▸ productOfNumber_succ p⟩
  unfold productOfNumber at h
  split at h
  · cases h
    show n - 1 + 1 = n
    omega
  · cases h

theorem orderFits_iff {order : Nat} {preset : Int} {price : Nat} :
    orderFits order preset price = true ↔
      order ≠ 0 ∧ (preset = 0 ∨ (10000 ≤ preset ∧ preset ≤ 50000000)) ∧ price ≤ 99999 := by
  simp only [orderFits, Bool.and_eq_true, Bool.or_eq_true, decide_eq_true_iff, and_assoc]

/-- The fields of LOAD ORDER pass its checks 1 to 4 (R59). -/
def LoadFits (s : State) (order product : Nat) (preset : Int) (price : Nat) : Prop :=
  order ≠ 0 ∧ (∃ p : ProductNo, p.val + 1 = product ∧ s.cal.products[p].defined = true) ∧
    (preset = 0 ∨ (10000 ≤ preset ∧ preset ≤ 50000000)) ∧ price ≤ 99999

section
variable {s : State} {order product : Nat} {preset : Int} {price : Nat}

theorem loadFits_iff {p : ProductNo} (hp : p.val + 1 = product) :
    LoadFits s order product preset price ↔
      orderFits order preset price = true ∧ s.cal.products[p].defined = true := by
  have hdefined : (∃ q : ProductNo, q.val + 1 = product ∧ s.cal.products[q].defined = true) ↔
      s.cal.products[p].defined = true := by
    refine ⟨fun ⟨q, hq, hdef⟩ => ?_, fun hdef => ⟨p, hp, hdef⟩⟩
    obtain rfl : q = p := Fin.ext (by omega)
    exact hdef
  rw [LoadFits, hdefined, orderFits_iff]
  tauto

theorem ownerLoadOrder_of_not_fits (h : ¬LoadFits s order product preset price) (customer : Nat) :
    ownerLoadOrder order product preset price customer s = (s, plain .parameter) := by
  unfold ownerLoadOrder
  split
  · rfl
  · next p hp =>
    rw [loadFits_iff (productOfNumber_eq_some_iff.mp hp)] at h
    refine if_pos ?_
    rwa [← Bool.not_and, Bool.not_eq_true', ← Bool.not_eq_true, Bool.and_eq_true]

/-- LOAD ORDER of fields in range: a held number first, then a full table (R59). -/
theorem ownerLoadOrder_of_fits {p : ProductNo} (hp : p.val + 1 = product) (h : LoadFits s order product preset price)
    (customer : Nat) :
    ownerLoadOrder order product preset price customer s =
      if (findOrder s.orders order).isSome then (s, plain .duplicate)
      else if 16 ≤ s.orders.length then (s, plain .tableFull)
      else
        ({ s with
            orders := s.orders ++
              [{ number := order, product := p, preset := preset, price := price, customer := customer, bound := none }] },
          .reply .ok (b1 s.orders.length ++ b1 (s.orders.length + 1))) := by
  obtain ⟨hfit, hdef⟩ := (loadFits_iff hp).mp h
  simp only [ownerLoadOrder, productOfNumber_eq_some_iff.mpr hp, hfit, hdef, orderCount, List.length_append,
    List.length_singleton, Bool.not_true, Bool.or_self, Bool.false_eq_true, if_false, maxOrders]

theorem ownerLoadOrder_of_known (h : LoadFits s order product preset price) (hknown : ∃ o ∈ s.orders, o.number = order)
    (customer : Nat) : ownerLoadOrder order product preset price customer s = (s, plain .duplicate) := by
  have ⟨_, ⟨p, hp, _⟩, _⟩ := h
  rw [ownerLoadOrder_of_fits hp h, if_pos (findOrder_isSome_iff.mpr hknown)]

theorem ownerLoadOrder_of_full (h : LoadFits s order product preset price) (hnew : ¬∃ o ∈ s.orders, o.number = order)
    (hfull : 16 ≤ s.orders.length) (customer : Nat) :
    ownerLoadOrder order product preset price customer s = (s, plain .tableFull) := by
  have ⟨_, ⟨p, hp, _⟩, _⟩ := h
  rw [ownerLoadOrder_of_fits hp h, if_neg (mt findOrder_isSome_iff.mp hnew), if_pos hfull]

theorem ownerLoadOrder_of_new {p : ProductNo} (hp : p.val + 1 = product) (h : LoadFits s order product preset price)
    (hnew : ¬∃ o ∈ s.orders, o.number = order) (hroom : s.orders.length < 16) (customer : Nat) :
    ownerLoadOrder order product preset price customer s =
      ({ s with
          orders := s.orders ++
            [{ number := order, product := p, preset := preset, price := price, customer := customer, bound := none }] },
        .reply .ok (b1 s.orders.length ++ b1 (s.orders.length + 1))) := by
  rw [ownerLoadOrder_of_fits hp h, if_neg (mt findOrder_isSome_iff.mp hnew), if_neg (Nat.not_le.mpr hroom)]

end

/-! ### READ ORDER and REMOVE ORDER (R60, R61) -/

section
variable {s : State}

theorem ownerReadOrder_of_beyond {position : Nat} (h : s.orders.length ≤ position) :
    ownerReadOrder position s = (s, .reply .notFound (orderCount s)) := by
  rw [ownerReadOrder, List.getElem?_eq_none h]

theorem ownerReadOrder_of_held {position : Nat} {o : Order} (h : s.orders[position]? = some o) :
    ownerReadOrder position s = (s, .reply .ok (orderData o ++ orderCount s)) := by
  rw [ownerReadOrder, h]

theorem ownerRemoveOrder_of_unknown {order : Nat} (h : findOrder s.orders order = none) :
    ownerRemoveOrder order s = (s, plain .notFound) := by
  rw [ownerRemoveOrder, h]

theorem ownerRemoveOrder_of_bound {order : Nat} {o : Order} (h : findOrder s.orders order = some o)
    (hb : o.bound ≠ none) : ownerRemoveOrder order s = (s, plain .state) := by
  simp only [ownerRemoveOrder, h]
  exact if_pos (Option.isSome_iff_ne_none.mpr hb)

theorem ownerRemoveOrder_of_waiting {order : Nat} {o : Order} (h : findOrder s.orders order = some o)
    (hb : o.bound = none) :
    ownerRemoveOrder order s =
      ({ s with orders := removeOrder order s.orders }, .reply .ok (b1 (removeOrder order s.orders).length)) := by
  simp only [ownerRemoveOrder, h, hb]
  rfl

end

/-- Settles O34: each owner's answer, by the checks in their order, goes out through the ready port. -/
theorem orderCommands : Obligations.OrderCommands := by
  unfold Obligations.OrderCommands
  intro tag order product preset price customer position s h loads loadRefused fits known
  have reply {c q st data} (hrun : runCommand c s = (q, .reply st data)) :=
    congrArg (Host.Outcome.next (φ := Fault) (ρ := Refusal)) (takeCommand_of_reply h hrun tag)
  refine ⟨findOrder_eq_none_iff, fun _ => findOrder_spec, ?parameter, ?duplicate, ?tableFull, ?loaded, ?beyond, ?held,
    ?unknown, fun o ho => ⟨?bound, ?waiting⟩⟩
  case parameter => exact fun hfit => reply (ownerLoadOrder_of_not_fits hfit customer)
  case duplicate => exact fun hfit hknown => reply (ownerLoadOrder_of_known hfit hknown customer)
  case tableFull => exact fun hfit hnew hfull => reply (ownerLoadOrder_of_full hfit hnew hfull customer)
  case loaded => exact fun p hp hfit hnew hroom => reply (ownerLoadOrder_of_new hp hfit hnew hroom customer)
  case beyond => exact fun hle => reply (ownerReadOrder_of_beyond hle)
  case held => exact fun o ho => reply (ownerReadOrder_of_held ho)
  case unknown => exact fun hnew => reply (ownerRemoveOrder_of_unknown (findOrder_eq_none_iff.mpr hnew))
  case bound => exact fun hb => reply (ownerRemoveOrder_of_bound ho hb)
  case waiting => exact fun hb => reply (ownerRemoveOrder_of_waiting ho hb)

end Sys2Proof.Machine

namespace Sys2Proof.Machine

/-! ## The valve commands follow the lines, along every step (R70, R103, R110) -/

/-- The newest command of a valve, by whether its line is FLOWING or SLOWDOWN: it opens only then, it is the one in the
slot, and only a CLOSE is escalated. -/
def ValveRecord.follows (flows : Bool) (v : ValveRecord) : Prop :=
  (v.commanded ≠ .close → flows = true) ∧ (∀ st, v.slot = some st → st = v.commanded) ∧
    (v.escalated = true → v.commanded = .close)

theorem valveLaw_iff (s : State) : ValveLaw s ↔ ∀ l, (s.valve.get l).follows (s.lineState l).flows := Iff.rfl

/-! ### Updates of one part of the state -/

theorem ite_valveLaw {c : Prop} [Decidable c] {a b : State} (ha : ValveLaw a) (hb : ValveLaw b) :
    ValveLaw (if c then a else b) := by
  split
  · exact ha
  · exact hb

/-- A CLOSE freshly issued follows its line in every state. -/
theorem ValveRecord.follows_powered (flows : Bool) (at_ : Micros) : (ValveRecord.powered at_).follows flows :=
  ⟨fun hc => absurd rfl hc, fun _ hst => (Option.some.inj hst).symm, fun _ => rfl⟩

/-- Power-on issues CLOSE to both valves, whatever the lines come up in (R115). -/
theorem restoreVolatile_valveLaw (keep : Bool) (s : State) : ValveLaw (restoreVolatile keep s)
  | .line1 => ValveRecord.follows_powered _ _
  | .line2 => ValveRecord.follows_powered _ _

section
variable {s : State} (h : ValveLaw s) (l : LineId)
include h

/-- One line's valve and state replaced, by ones that agree. -/
theorem valveLaw_of_line {t : State} (hl : (t.valve.get l).follows (t.lineState l).flows)
    (ho : ∀ m, m ≠ l → t.valve.get m = s.valve.get m ∧ t.line.get m = s.line.get m) : ValveLaw t := by
  intro m
  by_cases hm : m = l
  · exact hm ▸ hl
  · obtain ⟨hvalve, hline⟩ := ho m hm
    rw [State.lineState, hvalve, hline]
    exact h m

/-- A change of a line that leaves its state. -/
theorem modLine_valveLaw {f : Line → Line}
    (hf : ∀ ln, (f ln).kept.state = ln.kept.state := by exact fun _ => rfl) : ValveLaw (s.modLine l f) := by
  refine valveLaw_of_line h l ?_ fun m hm => ⟨rfl, PerLine.get_set_other _ _ _ _ hm⟩
  rw [State.lineState, State.modLine_line, PerLine.get_set_same, hf]
  exact h l

theorem modCtx_valveLaw (f : Delivery → Delivery) : ValveLaw (s.modCtx l f) := modLine_valveLaw h l

theorem modValve_valveLaw {f : ValveRecord → ValveRecord}
    (hf : (f (s.valve.get l)).follows (s.lineState l).flows) : ValveLaw (s.modValve l f) := by
  refine valveLaw_of_line h l ?_ fun m hm => ⟨PerLine.get_set_other _ _ _ _ hm, rfl⟩
  rw [State.modValve_valve, PerLine.get_set_same]
  exact hf

theorem modCompartment_valveLaw (c : CompartmentNo) (f : Compartment → Compartment) :
    ValveLaw (s.modCompartment c f) := h

theorem journal_valveLaw (j : Journal) : ValveLaw { s with journal := j } := h

theorem orders_valveLaw (os : List Order) : ValveLaw { s with orders := os } := h

/-! ### Changes of line state and valve commands -/

/-- A stage that opens the valve only in FLOWING and SLOWDOWN may be issued (R103). -/
theorem issueStage_valveLaw {st : Stage} (hst : st ≠ .close → (s.lineState l).flows = true) :
    ValveLaw (issueStage l st s) :=
  modValve_valveLaw h l ⟨hst, fun _ hs => (Option.some.inj hs).symm, fun he => nomatch he⟩

theorem issueClose_valveLaw : ValveLaw (issueStage l .close s) := issueStage_valveLaw h l (absurd rfl)

theorem resendStage_valveLaw (n : Nat) : ValveLaw (resendStage l n s) := by
  obtain ⟨hopen, -, hesc⟩ := h l
  exact modValve_valveLaw h l ⟨hopen, fun _ hs => (Option.some.inj hs).symm, hesc⟩

omit h in
/-- The stage that a line's state calls for opens the valve in FLOWING and SLOWDOWN alone (R70). -/
theorem flows_of_stageFor {s : State} (hst : stageFor s l ≠ .close) : (s.lineState l).flows = true := by
  unfold stageFor at hst
  split at hst
  · next e => rw [e]; rfl
  · next e => rw [e]; rfl
  · exact absurd rfl hst

/-- A line that enters a state asks for the stage of that state, so its valve follows it there (R70). -/
theorem enterState_valveLaw (st : LineState) : ValveLaw (enterState l st s) := by
  obtain ⟨-, hslot, hesc⟩ := h l
  unfold enterState
  generalize hq : raiseLineStatus l (s.modLine l _) = q
  have hvalve : q.valve = s.valve := by rw [← hq]; rfl
  have hline : ∀ m, m ≠ l → q.line.get m = s.line.get m := fun m hm => by
    rw [← hq]
    exact PerLine.get_set_other _ _ _ _ hm
  unfold askStage
  split
  · next hask =>
    refine valveLaw_of_line h l ⟨fun hc => flows_of_stageFor l (hask ▸ hc), ?_, ?_⟩ fun m hm =>
      ⟨by rw [hvalve], hline m hm⟩
    · rw [hvalve]; exact hslot
    · rw [hvalve]; exact hesc
  · refine valveLaw_of_line h l ?_ fun m hm => ⟨?_, hline m hm⟩
    · simp only [issueStage, State.modValve_valve, PerLine.get_set_same]
      exact ⟨fun hc => flows_of_stageFor l hc, fun _ hs => (Option.some.inj hs).symm, fun he => nomatch he⟩
    · simp only [issueStage, State.modValve_valve, PerLine.get_set_other _ _ _ _ hm, hvalve]

theorem enterStopping_valveLaw (causes : List StopCause) : ValveLaw (enterStopping l causes s) :=
  enterState_valveLaw (modLine_valveLaw (modCtx_valveLaw h l _) l) l _

theorem enterSuspended_valveLaw (causes : List StopCause) : ValveLaw (enterSuspended l causes s) :=
  enterState_valveLaw (modCtx_valveLaw h l _) l _

theorem stopOn_valveLaw (c : StopCause) : ValveLaw (stopOn l c s) := by
  rw [stopOn_eq]
  exact ite_valveLaw (enterStopping_valveLaw h l _) (ite_valveLaw (modCtx_valveLaw h l _) h)

theorem enterAirHold_valveLaw (back : ResumeState) : ValveLaw (enterAirHold l back s) :=
  enterState_valveLaw (modLine_valveLaw (modCtx_valveLaw h l _) l) l _

theorem completeStopping_valveLaw : ValveLaw (completeStopping l s) := by
  have ha : ValveLaw (adaptCloseAhead l s) := by
    unfold adaptCloseAhead
    (repeat' split) <;> exact h
  unfold completeStopping
  split
  · split
    · exact h
    · exact enterState_valveLaw (modLine_valveLaw ha l) l _
  · exact h

theorem closeBothValves_valveLaw (r : PumpReason) : ValveLaw (closeBothValves r s) :=
  issueClose_valveLaw (issueClose_valveLaw h .line1) .line2

/-! ### Events of the time base -/

/-- The soft-start threshold opens the valve in FLOWING alone (R84). -/
theorem thresholdTest_valveLaw (d : Delivery) : ValveLaw (thresholdTest l d s) := by
  unfold thresholdTest
  split
  · next hst =>
    have hfull : ValveLaw (raiseLineStatus l (issueStage l .openFull s)) :=
      issueStage_valveLaw h l fun _ => by rw [hst]; rfl
    exact ite_valveLaw (enterState_valveLaw h l _) (ite_valveLaw hfull h)
  · exact h

theorem noFlowTest_valveLaw : ValveLaw (noFlowTest l s) :=
  ite_valveLaw (ite_valveLaw (modLine_valveLaw h l) h) (modLine_valveLaw h l)

theorem faultTest_valveLaw (faults : List StopCause) : ValveLaw (faultTest l faults s) := by
  unfold faultTest
  refine ite_valveLaw h ?_
  split
  · exact enterStopping_valveLaw h l _
  · exact modCtx_valveLaw h l _
  iterate 3 exact enterSuspended_valveLaw h l _
  · exact modCtx_valveLaw h l _
  · exact h

theorem evaluate_valveLaw : ValveLaw (evaluate l s) := by
  unfold evaluate
  split
  · exact h
  · next d _ =>
    have hflow : ValveLaw (flowingTest l d s) :=
      ite_valveLaw (noFlowTest_valveLaw (thresholdTest_valveLaw h l d) l) (enterStopping_valveLaw h l _)
    exact completeStopping_valveLaw (ite_valveLaw hflow (faultTest_valveLaw h l _)) l

theorem tick_valveLaw : ValveLaw (tick l s) := by
  have hleft : ValveLaw (tickLeft l s) := modLine_valveLaw (s := s.modPulse l takeCounts) h l
    (f := fun ln => { ln with kept := keptLeft l s ln.kept })
  rw [tick_eq]
  exact evaluate_valveLaw hleft l

theorem wakeEvent_valveLaw : ValveLaw (wakeEvent s)
  | .line1 => h .line1
  | .line2 => h .line2

theorem takeEdge_valveLaw (e : PulserEdge) : ValveLaw (takeEdge l e s) := by
  unfold takeEdge
  dsimp only
  split
  · exact h
  · exact h
  · exact ite_valveLaw (wakeEvent_valveLaw (s := (s.modPulse l _).modPulse l _) h) h

theorem takeTick_valveLaw : ValveLaw (takeTick l s) := ite_valveLaw (tick_valveLaw (modLine_valveLaw h l) l) h

theorem takeNoFlowExpiry_valveLaw : ValveLaw (takeNoFlowExpiry l s) := ite_valveLaw (enterStopping_valveLaw h l _) h

theorem takeReportExpiry_valveLaw : ValveLaw (takeReportExpiry l s) :=
  have hr : ValveLaw (raiseLineStatus l (s.modLine l _)) := modLine_valveLaw h l
  ite_valveLaw hr h

theorem leaveAirHold_valveLaw : ValveLaw (leaveAirHold l s) := by
  unfold leaveAirHold
  split
  · exact enterState_valveLaw h l _
  · exact h

theorem takeAirClearExpiry_valveLaw : ValveLaw (takeAirClearExpiry l s) :=
  ite_valveLaw (leaveAirHold_valveLaw (modLine_valveLaw h l) l) h

theorem takeAirHoldExpiry_valveLaw : ValveLaw (takeAirHoldExpiry l s) := ite_valveLaw (enterStopping_valveLaw h l _) h

theorem takeAirSilenceExpiry_valveLaw : ValveLaw (takeAirSilenceExpiry l s) :=
  ite_valveLaw (ite_valveLaw (modLine_valveLaw h l) (modLine_valveLaw h l)) h

/-! ### Valve driver -/

/-- A change of the window, the confirmation and the report of a valve. -/
theorem modValve_valveLaw_of_kept {f : ValveRecord → ValveRecord}
    (hf : ∀ v, (f v).commanded = v.commanded ∧ (f v).slot = v.slot := by exact fun _ => ⟨rfl, rfl⟩)
    (he : ∀ v, (f v).escalated = true → v.escalated = true := by exact fun _ => id) : ValveLaw (s.modValve l f) := by
  obtain ⟨hopen, hslot, hesc⟩ := h l
  obtain ⟨hcommanded, hplaced⟩ := hf (s.valve.get l)
  refine modValve_valveLaw h l ?_
  rw [ValveRecord.follows, hcommanded, hplaced]
  exact ⟨hopen, hslot, fun e => hesc (he _ e)⟩

/-- Only a CLOSE is escalated (R110). -/
theorem escalate_valveLaw (hc : (s.valve.get l).commanded = .close) : ValveLaw (escalate l s) := by
  obtain ⟨hopen, hslot, -⟩ := h l
  have he : ValveLaw ((placePumpStop .valveFault (some l) s).modValve l fun v =>
      { v with confirmed := false, confirmTimer := none, escalated := true,
               retryTimer := some (s.awake + retryInterval) }) :=
    modValve_valveLaw (s := placePumpStop .valveFault (some l) s) h l ⟨hopen, hslot, fun _ => hc⟩
  unfold escalate reportCloseFailure
  dsimp only [placePumpStop_awake]
  split
  iterate 3 exact he
  · exact modCtx_valveLaw he l _
  · exact enterSuspended_valveLaw he l _

theorem failOpen_valveLaw : ValveLaw (failOpen l s) :=
  have hv : ValveLaw (s.modValve l fun v => { v with confirmTimer := none }) := modValve_valveLaw_of_kept h l
  ite_valveLaw (enterSuspended_valveLaw hv l _) hv

theorem confirmStage_valveLaw : ValveLaw (confirmStage l s) :=
  completeStopping_valveLaw (modValve_valveLaw_of_kept h l (he := fun _ e => absurd e Bool.false_ne_true)) l

theorem takeValveStatus_valveLaw (p : Position) : ValveLaw (takeValveStatus l p s) := by
  have hv : ValveLaw (s.modValve l fun v => { v with reported := some p }) := modValve_valveLaw_of_kept h l
  unfold takeValveStatus
  dsimp only
  split
  · next hc =>
    have he := escalate_valveLaw hv l hc
    exact ite_valveLaw (ite_valveLaw hv he) (ite_valveLaw (confirmStage_valveLaw hv l) (ite_valveLaw he hv))
  · exact ite_valveLaw (failOpen_valveLaw hv l)
      (ite_valveLaw (ite_valveLaw hv (resendStage_valveLaw hv l 2)) (ite_valveLaw (confirmStage_valveLaw hv l) hv))

theorem takeValveFrame_valveLaw (data : List Byte) : ValveLaw (takeValveFrame l data s) := by
  unfold takeValveFrame
  split
  · exact h
  · split
    · exact h
    · exact takeValveStatus_valveLaw h l _

theorem windowEnds_valveLaw : ValveLaw (windowEnds l s) := by
  unfold windowEnds
  dsimp only
  split
  · next hc => exact ite_valveLaw (resendStage_valveLaw h l _) (escalate_valveLaw h l hc)
  · exact ite_valveLaw (resendStage_valveLaw h l _) (failOpen_valveLaw h l)

theorem takeConfirmExpiry_valveLaw : ValveLaw (takeConfirmExpiry l s) := ite_valveLaw (windowEnds_valveLaw h l) h

/-- A retry places CLOSE again, which is the stage that was escalated (R110). -/
theorem takeRetryExpiry_valveLaw : ValveLaw (takeRetryExpiry l s) := by
  unfold takeRetryExpiry
  split
  · next hdue =>
    obtain ⟨hopen, -, hesc⟩ := h l
    simp only [retryDue, Bool.and_eq_true] at hdue
    exact modValve_valveLaw h l ⟨hopen, fun _ hs => (Option.some.inj hs).symm.trans (hesc hdue.1.2).symm, hesc⟩
  · exact h

/-! ### Field frames -/

theorem takeAirPresent_valveLaw : ValveLaw (takeAirPresent l s) := by
  have hh : ValveLaw (hearAir l s) := modLine_valveLaw h l
  have hm := modLine_valveLaw hh l (f := fun ln => { ln with airFlag := true, airClear := none })
  have hq := fun (c : Prop) [Decidable c] => ite_valveLaw (c := c)
    (modCtx_valveLaw hm l fun d => { d with flags := { d.flags with airSeen := true } }) hm
  unfold takeAirPresent
  dsimp only
  split
  · exact enterAirHold_valveLaw (hq _) l _
  · exact enterAirHold_valveLaw (hq _) l _
  · exact modLine_valveLaw (hq _) l
  · exact hq _

theorem takeAirFrame_valveLaw (data : List Byte) : ValveLaw (takeAirFrame l data s) := by
  have hh : ValveLaw (hearAir l s) := modLine_valveLaw h l
  unfold takeAirFrame
  split
  · exact h
  · exact ite_valveLaw (takeAirPresent_valveLaw h l) (ite_valveLaw (modLine_valveLaw hh l) h)

theorem takeProbeFrame_valveLaw (data : List Byte) : ValveLaw (takeProbeFrame l data s) := by
  unfold takeProbeFrame
  split
  · exact modLine_valveLaw h l
  · exact modLine_valveLaw h l

theorem consume_valveLaw (f : Frame) : ValveLaw (consume f s) := by
  unfold consume
  split
  · exact h
  · exact takeProbeFrame_valveLaw h _ _
  · exact takeAirFrame_valveLaw h _ _
  · exact takeValveFrame_valveLaw h _ _

/-! ### Forwarding and the transmit ports -/

omit l

theorem modCounters_valveLaw (d : Direction) (f : Counters → Counters) : ValveLaw (s.modCounters d f) := by
  cases d <;> exact h

theorem forwardFrame_valveLaw (d : Direction) (f : Frame) : ValveLaw (forwardFrame d f s) := by
  unfold forwardFrame joinFifo
  split
  · refine ite_valveLaw (modCounters_valveLaw h d _) ?_
    split <;> exact h
  · exact modCounters_valveLaw h d _
  · exact modCounters_valveLaw h d _

theorem takeFieldFrame_valveLaw (f : Frame) : ValveLaw (takeFieldFrame f s) :=
  have hc := consume_valveLaw h f
  ite_valveLaw h <| ite_valveLaw (ite_valveLaw h (modCounters_valveLaw h _ _))
    (ite_valveLaw hc (forwardFrame_valveLaw hc _ _))

/-- A valve command that leaves its slot stays the commanded one. -/
theorem sendValve_valveLaw (l : LineId) (st : Stage) : ValveLaw (sendValve l st s) := by
  obtain ⟨hopen, -, hesc⟩ := h l
  have he : ValveLaw (s.modValve l fun v => { v with slot := none }) :=
    modValve_valveLaw h l ⟨hopen, fun _ hs => (nomatch hs), hesc⟩
  exact he

theorem sendForwarded_valveLaw : ValveLaw (sendForwarded s) := by
  unfold sendForwarded
  refine ite_valveLaw h ?_
  dsimp only
  split <;> exact modCounters_valveLaw h _ _

theorem takeFieldPort_valveLaw : ValveLaw (takeFieldPort s) := by
  unfold takeFieldPort
  refine ite_valveLaw h ?_
  split
  · exact sendValve_valveLaw h _ _
  · exact sendValve_valveLaw h _ _
  · exact h
  · exact sendForwarded_valveLaw h

theorem takeCabPort_valveLaw : ValveLaw (takeCabPort s) := by
  unfold takeCabPort sendToCab
  (repeat' split) <;> exact h

theorem enterBusOff_valveLaw (k : Link) : ValveLaw (enterBusOff k s) := by
  cases k <;> exact h

theorem recoverBusOff_valveLaw (k : Link) : ValveLaw (recoverBusOff k s) := by
  cases k
  · exact h
  · exact ite_valveLaw h h

end

/-! ### Line commands -/

/-- Both answers leave the law. -/
theorem ite_fst_valveLaw {c : Prop} [Decidable c] {a b : State × Answer} (ha : ValveLaw a.1) (hb : ValveLaw b.1) :
    ValveLaw (if c then a else b).1 := by
  split
  · exact ha
  · exact hb

section
variable {s : State} (h : ValveLaw s)
include h

theorem onLine_valveLaw (n : Nat) {f : LineId → State × Answer} (hf : ∀ l, ValveLaw (f l).1) :
    ValveLaw (onLine n s f).1 := by
  unfold onLine
  split
  · exact h
  · exact hf _

theorem openDelivery_valveLaw (l : LineId) (d : Delivery) : ValveLaw (openDelivery l d s) := by
  have hk := modCompartment_valveLaw (modLine_valveLaw h l
    (f := fun ln => { ln with kept := { ln.kept with ctx := some d, unattended := 0 } })) d.compartment
  exact enterState_valveLaw (journal_valveLaw (hk _) _) l _

theorem armLine_valveLaw (l : LineId) (order c : Nat) : ValveLaw (armLine l order c s).1 := by
  unfold armLine
  refine ite_fst_valveLaw h (ite_fst_valveLaw h ?_)
  split
  · exact h
  · refine ite_fst_valveLaw h (ite_fst_valveLaw h ?_)
    split
    · exact h
    · refine ite_fst_valveLaw h (ite_fst_valveLaw h ?_)
      split
      · exact h
      · exact openDelivery_valveLaw (orders_valveLaw h _) _ _

theorem armFlushLine_valveLaw (l : LineId) (c : Nat) : ValveLaw (armFlushLine l c s).1 := by
  unfold armFlushLine
  refine ite_fst_valveLaw h (ite_fst_valveLaw h ?_)
  split
  · exact h
  · split
    · exact h
    · refine ite_fst_valveLaw h ?_
      split
      · exact h
      · exact openDelivery_valveLaw h _ _

theorem undoArm_valveLaw (l : LineId) (d : Delivery) : ValveLaw (undoArm l d s) := by
  have hg : ValveLaw (releaseGrant d s) := h
  unfold undoArm
  dsimp only
  split
  · exact enterState_valveLaw (modLine_valveLaw (journal_valveLaw hg _) l) l _
  · exact enterState_valveLaw (modLine_valveLaw (journal_valveLaw (orders_valveLaw hg _) _) l) l _

theorem ownerDisarm_valveLaw (n : Nat) : ValveLaw (ownerDisarm n s).1 :=
  onLine_valveLaw h n fun l => by
    split
    · exact undoArm_valveLaw h _ _
    · exact h

theorem beginFlow_valveLaw (l : LineId) (r : ResumeState) : ValveLaw (beginFlow l r s) :=
  ite_valveLaw (enterAirHold_valveLaw h l r) (enterState_valveLaw h l _)

theorem ownerStart_valveLaw (n : Nat) : ValveLaw (ownerStart n s).1 :=
  onLine_valveLaw h n fun l => by
    split
    · unfold startLine
      split
      · exact h
      · exact beginFlow_valveLaw (modCtx_valveLaw h l _) _ _
    · exact h

theorem ownerResume_valveLaw (n : Nat) : ValveLaw (ownerResume n s).1 :=
  onLine_valveLaw h n fun l => by
    split
    · exact enterState_valveLaw h l _
    · unfold resumePaused
      split
      · exact h
      · exact ite_fst_valveLaw h (beginFlow_valveLaw (modCtx_valveLaw h l _) _ _)
    · exact h

theorem ownerPause_valveLaw (n : Nat) : ValveLaw (ownerPause n s).1 :=
  onLine_valveLaw h n fun l => by
    split
    iterate 4 exact stopOn_valveLaw h l _
    exact h

theorem ownerStop_valveLaw (n : Nat) : ValveLaw (ownerStop n s).1 :=
  onLine_valveLaw h n fun l => by
    split
    iterate 4 exact stopOn_valveLaw h l _
    · exact enterState_valveLaw (modCtx_valveLaw h l _) l _
    · exact h

theorem ownerEmergencyStop_valveLaw : ValveLaw (ownerEmergencyStop s).1 :=
  closeBothValves_valveLaw (stopOn_valveLaw (stopOn_valveLaw h _ _) _ _) _

theorem ownerEnd_valveLaw (n : Nat) : ValveLaw (ownerEnd n s).1 :=
  onLine_valveLaw h n fun l => by
    split
    · exact h
    · next d _ =>
      have hc := modCtx_valveLaw h l fun _ => endContext s d
      exact ite_fst_valveLaw (enterState_valveLaw (journal_valveLaw hc _) l _) h

/-- An accepted RESTART empties both slots, and leaves the commanded stages (R115). -/
theorem ownerRestart_valveLaw : ValveLaw (ownerRestart s).1 := by
  have he : ValveLaw (setPending .restart (emptySlots s)) := fun l => by
    obtain ⟨hopen, -, hesc⟩ := h l
    rw [setPending_valve, emptySlots_valve_get]
    exact ⟨hopen, fun _ hs => (nomatch hs), hesc⟩
  exact ite_fst_valveLaw h he

/-! ### The command port -/

/-- The owners of the other commands leave lines and valves as they are. -/
theorem runCommand_valveLaw (c : Command) : ValveLaw (runCommand c s).1 := by
  cases c
  case arm line order compartment => exact onLine_valveLaw h line fun l => armLine_valveLaw h l order compartment
  case armFlush line compartment => exact onLine_valveLaw h line fun l => armFlushLine_valveLaw h l compartment
  case disarm line => exact ownerDisarm_valveLaw h line
  case start line => exact ownerStart_valveLaw h line
  case pause line => exact ownerPause_valveLaw h line
  case resume line => exact ownerResume_valveLaw h line
  case stop line => exact ownerStop_valveLaw h line
  case endDelivery line => exact ownerEnd_valveLaw h line
  case emergencyStop => exact ownerEmergencyStop_valveLaw h
  case readLineStatus line => exact onLine_valveLaw h line fun _ => h
  case readTotalizers line => exact onLine_valveLaw h line fun _ => h
  case restart => exact ownerRestart_valveLaw h
  all_goals
    simp only [runCommand, ownerLoadOrder, ownerRemoveOrder, ownerReadOrder, ownerLoadCompartment, ownerReadCompartment,
      ownerReadProduct, ownerReadRecord, ownerReleaseThrough, ownerReadJournalState, ownerReadCalibrationIdentity,
      ownerReadCalibrationItem, ownerWriteCalibrationItem, acceptCalibration, restartRelock, ownerUnlock, ownerLock,
      ownerSetCredential, ownerRemoveLock, ownerFreeze, ownerWritePassEntry, ownerDeletePassEntry, ownerReadPassEntry,
      ownerReadForwardingCounters, ownerClearForwardingCounters, ownerSetTime, ownerWriteSetting, ownerReadSetting,
      ownerRestoreDefaults, ownerReadDeviceStatus, ownerClearCondition, ownerPark]
    (repeat' split) <;> exact h

theorem placeAnswer_valveLaw (code tag : Nat) (a : Answer) : ValveLaw (placeAnswer code tag a s) := by
  cases a <;> exact h

theorem takeCommandFrame_valveLaw (code tag : Nat) (c : Option Command) : ValveLaw (takeCommandFrame code tag c s) := by
  have hd : ValveLaw (decideCommand code c s).1 := by
    unfold decideCommand
    refine ite_fst_valveLaw h (ite_fst_valveLaw h ?_)
    split
    · exact h
    · exact runCommand_valveLaw h _
  unfold takeCommandFrame
  exact ite_valveLaw h (placeAnswer_valveLaw hd code tag _)

theorem receiveCab_valveLaw {f : State → State} (hf : ValveLaw (f s)) : ValveLaw (receiveCab f s) :=
  ite_valveLaw h (ite_valveLaw (wakeEvent_valveLaw h) (ite_valveLaw h (ite_valveLaw h hf)))

theorem handleCabFrame_valveLaw (f : Frame) : ValveLaw (handleCabFrame f s) :=
  ite_valveLaw (ite_valveLaw (takeCommandFrame_valveLaw h _ _ _) h)
    (ite_valveLaw (modCounters_valveLaw h _ _) (forwardFrame_valveLaw h _ _))

/-! ### Calibration changes, power-on, and the completion of writes -/

/-- A new valve identifier issues CLOSE to its valve (R114). -/
theorem itemEffect_valveLaw (sel : ItemSel) : ValveLaw (itemEffect sel s) := by
  unfold itemEffect
  split
  · exact modLine_valveLaw h _
  · exact modValve_valveLaw_of_kept (issueClose_valveLaw h _) _
  · exact h

theorem applyRecord_valveLaw (level : Bool) (r : CalibrationRecord) : ValveLaw (applyRecord level r s) := by
  unfold applyRecord
  dsimp only
  split
  · next sel _ => exact itemEffect_valveLaw (s := { s with cal := setItem s.cal sel r.newValue }) h sel
  · exact h
  · exact h

theorem checkNewestCalibration_valveLaw : ValveLaw (checkNewestCalibration s) := by
  unfold checkNewestCalibration
  split
  · exact h
  · unfold checkRecord
    refine ite_valveLaw h ?_
    split
    · exact ite_valveLaw (applyRecord_valveLaw h _ _) h
    · exact h

theorem requestRewrite_valveLaw (l : LineId) : ValveLaw (requestRewrite s l) := by
  rw [requestRewrite_eq]
  exact h

theorem enterHoldup_valveLaw : ValveLaw (enterHoldup s) :=
  closeBothValves_valveLaw (stopOn_valveLaw (stopOn_valveLaw h _ _) _ _) .powerLoss

theorem takePowerFail_valveLaw : ValveLaw (takePowerFail s) :=
  ite_valveLaw h (enterHoldup_valveLaw (ite_valveLaw (wakeEvent_valveLaw h) h))

omit h in
/-- Power-on leaves the law whatever it starts from. -/
theorem runPowerOn_valveLaw (keep : Bool) (s : State) : ValveLaw (runPowerOn keep s) := by
  have hc := checkNewestCalibration_valveLaw (s := repairJournal (restoreVolatile keep s))
    (restoreVolatile_valveLaw keep s)
  have hr : ValveLaw (restore keep s) :=
    requestRewrite_valveLaw (requestRewrite_valveLaw (s := restoreLock _) hc _) _
  exact ite_valveLaw (enterHoldup_valveLaw hr) hr

theorem takeRelease_valveLaw : ValveLaw (takeRelease s) :=
  ite_valveLaw h (ite_valveLaw (runPowerOn_valveLaw _ _) h)

theorem performReset_valveLaw (k : ResetKind) : ValveLaw (performReset k s) := by
  unfold performReset
  refine ite_valveLaw ?_ h
  cases k
  · exact ite_valveLaw h h
  · exact runPowerOn_valveLaw true _

theorem countForwarded_valveLaw (d : Direction) (t : Transmission) : ValveLaw (countForwarded d t s) :=
  ite_valveLaw (modCounters_valveLaw h d _) h

theorem takeTransmission_valveLaw (k : Link) : ValveLaw (takeTransmission k s) := by
  unfold takeTransmission
  split
  · split
    · exact countForwarded_valveLaw (s := { s with forward := { s.forward with txField := none } }) h _ _
    · exact h
  · split
    · next t _ _ =>
      have hc := countForwarded_valveLaw (s := { s with forward := { s.forward with txCab := none } }) h .fieldToCab t
      unfold performCompletion
      split
      · exact hc
      · exact performReset_valveLaw hc _
    · exact h

theorem closeLine_valveLaw (l : LineId) : ValveLaw (closeLine l s) := by
  unfold closeLine
  split
  · exact h
  · next d _ =>
    have hg : ValveLaw (releaseGrant d s) := h
    dsimp only
    split
    · exact enterState_valveLaw (modLine_valveLaw hg l) l _
    · exact enterState_valveLaw (modLine_valveLaw (orders_valveLaw hg _) l) l _

theorem answerInFlight_valveLaw (q : Nat) : ValveLaw (answerInFlight q s) := by
  unfold answerInFlight
  split <;> exact h

theorem restartRelock_valveLaw : ValveLaw (restartRelock s) := by
  unfold restartRelock
  split <;> exact h

theorem reportCompletion_valveLaw (w : JournalWrite) : ValveLaw (reportCompletion w s) := by
  unfold reportCompletion
  split
  · exact closeLine_valveLaw h _
  · exact answerInFlight_valveLaw (restartRelock_valveLaw (applyRecord_valveLaw h _ _)) _
  · exact h

theorem takeWriteCompletion_valveLaw : ValveLaw (takeWriteCompletion s) := by
  unfold takeWriteCompletion
  split
  · exact h
  · next w rest _ =>
    have hr := reportCompletion_valveLaw (journal_valveLaw h (completeWrite w rest s.journal)) w
    exact ite_valveLaw (runPowerOn_valveLaw _ _) hr

theorem loseSupply_valveLaw (between : Bool) : ValveLaw (loseSupply between s) := by
  unfold loseSupply storeFirstOnly
  (repeat' split) <;> exact h

/-! ### Commands and steps -/

theorem settle_valveLaw (before : State) : ValveLaw (settle before s) := by
  intro l
  rw [State.lineState, settle_line, settle_valve]
  exact h l

theorem event_valveLaw {f : State → State} (hf : ValveLaw (f s)) : ValveLaw (event f s) :=
  ite_valveLaw (settle_valveLaw hf s) h

theorem timedEvent_valveLaw (t : Micros) {f : State → State} (hf : ∀ q, ValveLaw q → ValveLaw (f q)) :
    ValveLaw (timedEvent t f s) :=
  event_valveLaw h (hf (advanceTo t s) h)

theorem exec_valveLaw {i : Instr} {t : State} (he : exec i s = .next t) : ValveLaw t := by
  cases i <;> injection he with he <;> subst he
  case edgeEvent l e t => exact timedEvent_valveLaw (s := setLevel l e s) h t fun _ hq => takeEdge_valveLaw hq l e
  case periodTimerOverflow l t => exact timedEvent_valveLaw h t fun _ hq => ite_valveLaw hq hq
  case meteringTick l t => exact timedEvent_valveLaw h t fun _ hq => takeTick_valveLaw hq l
  case temperatureAgeExpiry l t => exact timedEvent_valveLaw h t fun _ hq => hq
  case noFlowTimerExpiry l t => exact timedEvent_valveLaw h t fun _ hq => takeNoFlowExpiry_valveLaw hq l
  case airClearTimerExpiry l t => exact timedEvent_valveLaw h t fun _ hq => takeAirClearExpiry_valveLaw hq l
  case airHoldTimerExpiry l t => exact timedEvent_valveLaw h t fun _ hq => takeAirHoldExpiry_valveLaw hq l
  case airSilenceExpiry l t => exact timedEvent_valveLaw h t fun _ hq => takeAirSilenceExpiry_valveLaw hq l
  case reportTimerExpiry l t => exact timedEvent_valveLaw h t fun _ hq => takeReportExpiry_valveLaw hq l
  case relockTimerExpiry t => exact timedEvent_valveLaw h t fun _ hq => ite_valveLaw hq hq
  case confirmationTimerExpiry l t => exact timedEvent_valveLaw h t fun _ hq => takeConfirmExpiry_valveLaw hq l
  case retryTimerExpiry l t => exact timedEvent_valveLaw h t fun _ hq => takeRetryExpiry_valveLaw hq l
  case wakeDelayEnd t => exact timedEvent_valveLaw h t fun _ hq => ite_valveLaw hq hq
  case fieldFrameArrival f => exact event_valveLaw h (takeFieldFrame_valveLaw h f)
  case cabFrameArrival f => exact event_valveLaw h (receiveCab_valveLaw h (handleCabFrame_valveLaw h f))
  case fieldPortTake => exact event_valveLaw h (takeFieldPort_valveLaw h)
  case cabPortTake => exact event_valveLaw h (takeCabPort_valveLaw h)
  case transmissionCompletion k => exact event_valveLaw h (takeTransmission_valveLaw h k)
  case busOff k => exact event_valveLaw h (enterBusOff_valveLaw h k)
  case busOffRecovery k => exact event_valveLaw h (recoverBusOff_valveLaw h k)
  case writeCompletion => exact event_valveLaw h (takeWriteCompletion_valveLaw h)
  case powerFail => exact event_valveLaw (s := setFailPin true s) h (takePowerFail_valveLaw (s := setFailPin true s) h)
  case powerFailRelease =>
    exact event_valveLaw (s := setFailPin false s) h (takeRelease_valveLaw (s := setFailPin false s) h)
  case supplyFailure b => exact loseSupply_valveLaw h b
  case powerOn => exact settle_valveLaw (runPowerOn_valveLaw false s) s
  case storageMediumFailure q left => exact h
  all_goals exact event_valveLaw h (receiveCab_valveLaw h (takeCommandFrame_valveLaw h _ _ _))

theorem step_valveLaw {t : State} (he : step s = .next t) : ValveLaw t := by
  unfold step at he
  split at he
  · injection he with he
    subst he
    unfold idle
    (repeat' split) <;> exact h
  · next rest _ => exact exec_valveLaw (s := { s with pending := rest }) h he

end

/-- Settles O55: a line that enters a state asks for the stage of that state, every other change of a valve keeps its
commanded stage or closes it, and power-on closes both valves; so every command keeps the law. -/
theorem stepKeepsValveLaw : Obligations.StepKeepsValveLaw := by
  unfold Obligations.StepKeepsValveLaw
  exact fun _ _ h hstep => step_valveLaw h hstep

end Sys2Proof.Machine

namespace Sys2Proof.Machine

/-! ## Changes of line state and stops (R70, R85 to R88, R95, R96, R103) -/

/-! ### Entering a state (R70, R89 to R92, R103, R186) -/

/-- The valve stage that a line state calls for, at a run volume and a soft-start threshold (R70). -/
def stageOf (st : LineState) (volume softStart : Volume) : Stage :=
  if st = .flowing then (if volume < softStart then .openSlow else .openFull)
  else if st = .slowdown then .openSlow
  else .close

theorem stageFor_eq (s : State) (l : LineId) :
    stageFor s l = stageOf (s.lineState l) (lineRunVolume s l) (s.settings.lines.get l).softStart := by
  unfold stageFor stageOf
  cases s.lineState l <;> rfl

theorem runVolume_eq (d : Delivery) : runVolume d = if d.kind = .delivery then d.billed else d.gross := by
  unfold runVolume
  cases d.kind <;> rfl

theorem lineRunVolume_eq (s : State) (l : LineId) :
    lineRunVolume s l = match (s.line.get l).kept.ctx with
      | none => 0
      | some d => if d.kind = .delivery then d.billed else d.gross := by
  unfold lineRunVolume State.ctx
  cases (s.line.get l).kept.ctx with
  | none => rfl
  | some d => exact runVolume_eq d

/-- A valve record after a stage was issued at the instant `at_` (R103). -/
def ValveRecord.issued (st : Stage) (at_ : Micros) (v : ValveRecord) : ValveRecord :=
  { v with commanded := st, sendCount := 1, confirmed := false, confirmTimer := some (at_ + 500000),
           escalated := false, retryTimer := none, slot := some st }

theorem askStage_eq (l : LineId) (s : State) :
    askStage l s = s.modValve l fun v =>
      if stageFor s l = v.commanded then v else v.issued (stageFor s l) s.awake := by
  unfold askStage State.modValve
  dsimp only
  split
  · rw [PerLine.set_get]
  · rfl

/-- A line that has taken on a state, before its valve is asked for the stage of that state. -/
def Line.entered (st : LineState) (report : Micros) (ln : Line) : Line :=
  { ln with
    kept := { ln.kept with state := st }
    noFlow := if st.flows then ln.noFlow else none
    airHold := if st = .airHold then ln.airHold else none
    resume := if st = .airHold then ln.resume else none
    report := if st = .idle then none else if ln.kept.state = .idle then some report else ln.report }

theorem enterState_eq (l : LineId) (st : LineState) (s : State) :
    enterState l st s =
      let stage := stageOf st (lineRunVolume s l) (s.settings.lines.get l).softStart
      { s with
        line := s.line.set l ((s.line.get l).entered st (s.awake + s.settings.reportInterval * 1000))
        valve := s.valve.set l
          (if stage = (s.valve.get l).commanded then s.valve.get l else (s.valve.get l).issued stage s.awake)
        reports := { s.reports with lines := s.reports.lines.set l true } } := by
  have hstage : stageFor (raiseLineStatus l (s.modLine l (Line.entered st (s.awake + s.settings.reportInterval * 1000)))) l =
      stageOf st (lineRunVolume s l) (s.settings.lines.get l).softStart := by
    rw [stageFor_eq]
    cases l <;> rfl
  show askStage l (raiseLineStatus l (s.modLine l (Line.entered st _))) = _
  rw [askStage_eq, hstage]
  rfl

theorem enterState_valve_same (l : LineId) (st : LineState) (s : State) :
    (enterState l st s).valve.get l =
      let stage := stageOf st (lineRunVolume s l) (s.settings.lines.get l).softStart
      if stage = (s.valve.get l).commanded then s.valve.get l else (s.valve.get l).issued stage s.awake := by
  rw [enterState_eq]
  exact PerLine.get_set_same ..

/-- A state that calls for another stage than the commanded one issues it. -/
theorem enterState_valve_of_issued {l : LineId} {st : LineState} {s : State}
    (h : stageOf st (lineRunVolume s l) (s.settings.lines.get l).softStart ≠ (s.valve.get l).commanded) :
    (enterState l st s).valve.get l =
      (s.valve.get l).issued (stageOf st (lineRunVolume s l) (s.settings.lines.get l).softStart) s.awake := by
  rw [enterState_valve_same]
  exact if_neg h

@[simp] theorem enterState_lineState (l : LineId) (st : LineState) (s : State) :
    (enterState l st s).lineState l = st := by
  rw [enterState_eq, State.lineState, PerLine.get_set_same]
  rfl

@[simp] theorem enterState_ctx (l : LineId) (st : LineState) (s : State) : (enterState l st s).ctx l = s.ctx l := by
  rw [enterState_eq, State.ctx, PerLine.get_set_same]
  rfl

/-- Settles O17: entering a state changes the line, asks for the stage of the state, and raises the line status
request. -/
theorem lineStateChange : Obligations.LineStateChange := by
  unfold Obligations.LineStateChange
  refine ⟨fun _ _ _ _ _ => ⟨rfl, rfl, rfl, rfl, rfl⟩, fun l st s => ?_⟩
  intro ln v volume stage
  refine ⟨?_, fun _ => rfl⟩
  have hstage : stageOf st (lineRunVolume s l) (s.settings.lines.get l).softStart = stage := by
    rw [lineRunVolume_eq]
    rfl
  rw [enterState_eq, hstage]
  simp only [Line.entered, LineState.flows_iff]
  rfl

/-! ### Fault sets and targets (R85, R86, R192) -/

theorem stopCause_code_lt (c : StopCause) : c.code < 13 := by
  cases c <;> decide

theorem stopCause_code_inj {c x : StopCause} : x.code = c.code ↔ x = c := by
  refine ⟨fun h => ?_, congrArg _⟩
  revert h
  cases x <;> cases c <;> decide

theorem faultIn_addFault (f : FaultSet) (c x : StopCause) :
    faultIn (addFault f c) x = (faultIn f x || decide (x = c)) := by
  unfold faultIn addFault
  rw [BitVec.getLsbD_or, BitVec.getLsbD_twoPow]
  simp [stopCause_code_lt, stopCause_code_inj, eq_comm (a := c)]

theorem faultIn_addFaults (f : FaultSet) (cs : List StopCause) (x : StopCause) :
    faultIn (addFaults f cs) x = (faultIn f x || decide (x ∈ cs)) := by
  induction cs generalizing f with
  | nil => simp [addFaults]
  | cons c cs ih =>
    show faultIn (addFaults (addFault f c) cs) x = _
    rw [ih, faultIn_addFault, Bool.or_assoc]
    simp

theorem faultIn_onlyFault (c x : StopCause) : faultIn (onlyFault c) x = decide (x = c) := by
  rw [onlyFault, faultIn_addFault]
  simp [faultIn]

theorem worseTarget_code (a b : StopTarget) : (worseTarget a b).code = max a.code b.code := by
  unfold worseTarget
  split <;> omega

theorem worseTarget_paused (g : StopTarget) : worseTarget .paused g = g := by
  cases g <;> rfl

theorem worstTarget_cons (c : StopCause) (cs : List StopCause) :
    worstTarget (c :: cs) = cs.foldl (fun t x => worseTarget t (causeTarget x)) (causeTarget c) := by
  rw [worstTarget, List.foldl_cons, worseTarget_paused]

theorem worstTarget_singleton (c : StopCause) : worstTarget [c] = causeTarget c := worstTarget_cons c []

/-- The targets met so far are no more severe than the one that the fold ends with. -/
theorem le_foldl_worseTarget (cs : List StopCause) (g : StopTarget) :
    g.code ≤ (cs.foldl (fun t x => worseTarget t (causeTarget x)) g).code ∧
      ∀ c ∈ cs, (causeTarget c).code ≤ (cs.foldl (fun t x => worseTarget t (causeTarget x)) g).code := by
  induction cs generalizing g with
  | nil => simp
  | cons c cs ih =>
    obtain ⟨hstart, hrest⟩ := ih (worseTarget g (causeTarget c))
    rw [worseTarget_code] at hstart
    rw [List.foldl_cons]
    refine ⟨by omega, fun x hx => ?_⟩
    rcases List.mem_cons.mp hx with rfl | hx
    · omega
    · exact hrest x hx

/-- The fold ends with the target that it starts from or with one of the causes'. -/
theorem foldl_worseTarget_mem (cs : List StopCause) (g : StopTarget) :
    cs.foldl (fun t x => worseTarget t (causeTarget x)) g = g ∨
      ∃ c ∈ cs, cs.foldl (fun t x => worseTarget t (causeTarget x)) g = causeTarget c := by
  induction cs generalizing g with
  | nil => exact .inl rfl
  | cons c cs ih =>
    rw [List.foldl_cons]
    rcases ih (worseTarget g (causeTarget c)) with h | ⟨x, hx, h⟩
    · rw [h, worseTarget]
      split
      · exact .inr ⟨c, List.mem_cons_self, rfl⟩
      · exact .inl rfl
    · exact .inr ⟨x, List.mem_cons_of_mem _ hx, h⟩

theorem causeTarget_le_worstTarget {c : StopCause} {cs : List StopCause} (h : c ∈ cs) :
    (causeTarget c).code ≤ (worstTarget cs).code := (le_foldl_worseTarget cs .paused).2 c h

theorem worstTarget_mem (c : StopCause) (cs : List StopCause) : ∃ x ∈ c :: cs, worstTarget (c :: cs) = causeTarget x := by
  rw [worstTarget_cons]
  rcases foldl_worseTarget_mem cs (causeTarget c) with h | ⟨x, hx, h⟩
  · exact ⟨c, List.mem_cons_self, h⟩
  · exact ⟨x, List.mem_cons_of_mem _ hx, h⟩

/-! ### A line that stops (R85, R86, R95, R96) -/

theorem State.modLine_modLine (s : State) (l : LineId) (f g : Line → Line) :
    (s.modLine l f).modLine l g = s.modLine l fun ln => g (f ln) := by
  cases l <;> rfl

/-- A change of a line whose controller is known at this one point alone. -/
theorem State.modLine_congr {s : State} {l : LineId} {f g : Line → Line} (h : f (s.line.get l) = g (s.line.get l)) :
    s.modLine l f = s.modLine l g := by
  rw [State.modLine, h]
  rfl

theorem State.modCtx_of_some {s : State} {l : LineId} {d : Delivery} (hd : s.ctx l = some d) (f : Delivery → Delivery) :
    s.modCtx l f = s.modLine l fun ln => { ln with kept := { ln.kept with ctx := some (f d) } } := by
  refine State.modLine_congr (f := fun ln => { ln with kept := { ln.kept with ctx := ln.kept.ctx.map f } }) ?_
  have hd' : (s.line.get l).kept.ctx = some d := hd
  simp only [hd', Option.map_some]

section
variable {l : LineId} {s : State} {d : Delivery} (hd : s.ctx l = some d)
include hd

theorem enterStopping_of_some (c : StopCause) (cs : List StopCause) :
    enterStopping l (c :: cs) s = enterState l .stopping (s.modLine l fun ln =>
      { ln with
        airInStop := ln.airFlag
        kept := { ln.kept with
          ctx := some { d with stopCause := some c, faults := addFaults d.faults (c :: cs),
                               stopTarget := some (worstTarget (c :: cs)) } } }) := by
  unfold enterStopping
  dsimp only
  rw [State.modCtx_of_some hd, State.modLine_modLine]
  rfl

theorem furtherCauses_of_some (cs : List StopCause) :
    furtherCauses l cs s = s.modLine l fun ln =>
      { ln with
        kept := { ln.kept with
          ctx := some { d with faults := addFaults d.faults cs
                               stopTarget := some (worseTarget (d.stopTarget.getD .paused) (worstTarget cs)) } } } :=
  State.modCtx_of_some hd _

theorem enterSuspended_of_some (c : StopCause) (cs : List StopCause) :
    enterSuspended l (c :: cs) s = enterState l .suspended (s.modLine l fun ln =>
      { ln with
        kept := { ln.kept with
          ctx := some { d with stopCause := (match d.stopCause with
                                 | none => some c
                                 | some x => some x)
                               faults := addFaults d.faults (c :: cs)
                               stopTarget := some .suspended } } }) := by
  unfold enterSuspended
  rw [State.modCtx_of_some hd]
  cases d.stopCause <;> rfl

end

/-- Settles O18: the contexts are those that the three operations give a line with a delivery, and the targets and fault
sets are folds over the causes. -/
theorem stopCausesSetTheTarget : Obligations.StopCausesSetTheTarget := by
  unfold Obligations.StopCausesSetTheTarget
  refine ⟨fun l c cs s d hd => enterStopping_of_some hd c cs, fun l c s d g hd hg => ?single,
    fun l cs s d g hd hg => ?several, fun l c cs s d hd => enterSuspended_of_some hd c cs, faultIn_addFaults,
    fun _ _ => causeTarget_le_worstTarget, worstTarget_mem, faultIn_addFault,
    fun _ c x => ⟨rfl, faultIn_onlyFault c x⟩, by decide, fun c => ?table⟩
  case single =>
    rw [furtherCauses_of_some hd, hg, worstTarget_singleton]
    rfl
  case several =>
    rw [furtherCauses_of_some hd, hg]
    rfl
  case table => cases c <;> decide

/-! ### Completion of STOPPING, and the close-ahead (R87, R88) -/

/-- The CLOSE of a line is confirmed and its flow rate is 0 (R87). -/
def StopDone (s : State) (l : LineId) : Prop :=
  (s.valve.get l).commanded = .close ∧ (s.valve.get l).confirmed = true ∧ (s.pulse.get l).flow = 0

theorem completeStopping_cond_iff (s : State) (l : LineId) :
    (s.lineState l = .stopping ∧ closeConfirmed s l = true ∧ (s.pulse.get l).flow = 0) ↔
      s.lineState l = .stopping ∧ StopDone s l := by
  simp only [StopDone, closeConfirmed, Bool.and_eq_true, decide_eq_true_iff, and_assoc]

theorem completeStopping_of_waits {s : State} {l : LineId} (h : ¬StopDone s l) : completeStopping l s = s :=
  if_neg fun hc => h ((completeStopping_cond_iff s l).mp hc).2

theorem completeStopping_of_elsewhere {s : State} {l : LineId} (h : s.lineState l ≠ .stopping) :
    completeStopping l s = s := if_neg fun hc => h hc.1

theorem completeStopping_of_done {s : State} {l : LineId} {d : Delivery} {g : StopTarget} (hst : s.lineState l = .stopping)
    (hdone : StopDone s l) (hd : s.ctx l = some d) (hg : d.stopTarget = some g) :
    completeStopping l s = enterState l (targetState g)
      ((adaptCloseAhead l s).modLine l fun ln => { ln with airInStop := false }) := by
  unfold completeStopping
  rw [if_pos ((completeStopping_cond_iff s l).mpr ⟨hst, hdone⟩), hd]
  simp only [hg, Option.getD_some]

theorem adapts_iff (d : Delivery) (air : Bool) :
    adapts d air = true ↔ d.stopCause = some .preset ∧ d.faults = onlyFault .preset ∧ air = false ∧
      ∃ p, d.preset = some p ∧ 50000 ≤ p := by
  unfold adapts
  cases d.preset <;> simp [and_assoc]

theorem adaptCloseAhead_of_some {s : State} {l : LineId} {d : Delivery} (hd : s.ctx l = some d) :
    adaptCloseAhead l s =
      if adapts d (s.line.get l).airInStop then
        { s with
          settings := setCloseAhead l (adaptedCloseAhead d (s.settings.lines.get l).closeAhead) s.settings
          storedSettings := setCloseAhead l (adaptedCloseAhead d (s.settings.lines.get l).closeAhead) s.storedSettings }
      else s := by
  unfold adaptCloseAhead
  rw [hd]

/-- Settles O19: a completion is `completeStopping_of_done`, and it adapts the close-ahead as `adapts_iff` says. -/
theorem stoppingCompletesAndAdapts : Obligations.StoppingCompletesAndAdapts := by
  unfold Obligations.StoppingCompletesAndAdapts
  intro l s d g hst hd hg
  refine ⟨fun hwait => completeStopping_of_waits hwait, fun hdone hkeeps => ?_,
    fun hdone hcause hfaults hair p hp hlarge => ?_⟩
  · have hno : ¬adapts d (s.line.get l).airInStop = true := by
      rw [adapts_iff]
      rintro ⟨hcause, hfaults, hair, p, hp, hlarge⟩
      rcases hkeeps with h | h | h | h
      · exact h hcause
      · exact h hfaults
      · exact Bool.false_ne_true (hair.symm.trans h)
      · exact Int.not_lt.mpr hlarge (h p hp)
    rw [completeStopping_of_done hst hdone hd hg, adaptCloseAhead_of_some hd, if_neg hno]
    cases g <;> rfl
  · have hyes : adapts d (s.line.get l).airInStop = true := (adapts_iff _ _).mpr ⟨hcause, hfaults, hair, p, hp, hlarge⟩
    rw [completeStopping_of_done hst hdone hd hg, adaptCloseAhead_of_some hd, if_pos hyes, adaptedCloseAhead, hp]
    cases g <;> rfl

end Sys2Proof.Machine

namespace Sys2Proof.Machine

/-! ## Step 7 of a tick (R83, R84, R87, R89, R94, R95) -/

/-! ### The tests -/

theorem reverseFlowMet_eq (s : State) (l : LineId) (d : Delivery) :
    reverseFlowMet s l d = decide (1 ≤ d.reversePulses ∧
      (s.cal.lines.get l).reverseLimit * (s.cal.lines.get l).k ≤ d.reversePulses * 1000) :=
  (Bool.decide_and ..).symm

theorem tempLostMet_iff (s : State) (l : LineId) :
    tempLostMet s l = true ↔ ∃ x, (s.line.get l).temp = some x ∧ 30000000 < s.awake - x.since := by
  unfold tempLostMet
  cases (s.line.get l).temp with
  | none => simp
  | some x =>
    simp only [Option.some.injEq, exists_eq_left']
    exact decide_eq_true_iff

theorem reached_iff (threshold : Option Volume) (v : Volume) :
    reached threshold v = true ↔ ∃ p, threshold = some p ∧ p ≤ v := by
  cases threshold <;> simp [reached]

theorem stopThreshold_reached_iff (s : State) (l : LineId) (d : Delivery) :
    reached (stopThreshold s l d) d.billed = true ↔
      d.kind = .delivery ∧ ∃ p, d.preset = some p ∧
        max (p - (s.settings.lines.get l).closeAhead) (p / 2) ≤ d.billed := by
  rw [reached_iff, stopThreshold]
  cases d.kind <;> simp

theorem slowdownThreshold_reached_iff (s : State) (l : LineId) (d : Delivery) :
    reached (slowdownThreshold s l d) d.billed = true ↔
      ∃ p, d.kind = .delivery ∧ d.preset = some p ∧ p - (s.settings.lines.get l).slowdown ≤ d.billed := by
  rw [reached_iff, slowdownThreshold]
  cases d.kind <;> simp

/-! ### A line in FLOWING or SLOWDOWN -/

theorem noFlowTest_lineState (l m : LineId) (s : State) : (noFlowTest l s).lineState m = s.lineState m := by
  unfold noFlowTest
  (repeat' split) <;> cases l <;> cases m <;> rfl

/-- The thresholds leave a flowing line flowing. -/
theorem thresholdTest_flows {l : LineId} {s : State} (h : (s.lineState l).flows = true) (d : Delivery) :
    ((thresholdTest l d s).lineState l).flows = true := by
  unfold thresholdTest
  split
  · split
    · rw [enterState_lineState]
      rfl
    · split
      · exact h
      · exact h
  · exact h

/-- A stop of a line whose valve is not closed issues CLOSE, which is not confirmed. -/
theorem not_stopDone_of_enterStopping {l : LineId} {s : State} (h : (s.valve.get l).commanded ≠ .close)
    (causes : List StopCause) : ¬StopDone (enterStopping l causes s) l := by
  rintro ⟨-, hconfirmed, -⟩
  unfold enterStopping at hconfirmed
  dsimp only at hconfirmed
  rw [enterState_valve_of_issued] at hconfirmed
  · exact Bool.false_ne_true hconfirmed
  · exact fun e => h e.symm

theorem evaluate_of_flowing {l : LineId} {s : State} {d : Delivery} (hd : s.ctx l = some d)
    (h : (s.lineState l).flows = true) (hv : (s.valve.get l).commanded ≠ .close) :
    evaluate l s = flowingTest l d s := by
  have hstays : completeStopping l (flowingTest l d s) = flowingTest l d s := by
    unfold flowingTest
    split
    · refine completeStopping_of_elsewhere fun hst => ?_
      have hf := thresholdTest_flows h d
      rw [← noFlowTest_lineState, hst] at hf
      exact Bool.false_ne_true hf
    · exact completeStopping_of_waits (not_stopDone_of_enterStopping hv _)
  rw [← hstays]
  unfold evaluate
  rw [hd]
  exact congrArg (completeStopping l) (if_pos h)

/-- Settles O15: the tests are those of the model, in their order, and after them a stop that begins is not yet done. -/
theorem flowingLineTests : Obligations.FlowingLineTests := by
  unfold Obligations.FlowingLineTests
  intro l v d hd hst hv cal set tests met runs slow full
  have hmet : stopCauses v l d = met := by
    have htemp : tempLostMet v l = decide (∃ x, (v.line.get l).temp = some x ∧ 30000000 < v.awake - x.since) :=
      Bool.eq_iff_iff.mpr ((tempLostMet_iff v l).trans decide_eq_true_iff.symm)
    have hpreset : reached (stopThreshold v l d) d.billed =
        decide (d.kind = .delivery ∧ ∃ p, d.preset = some p ∧ max (p - set.closeAhead) (p / 2) ≤ d.billed) :=
      Bool.eq_iff_iff.mpr ((stopThreshold_reached_iff v l d).trans decide_eq_true_iff.symm)
    unfold stopCauses
    rw [reverseFlowMet_eq, htemp, hpreset]
    rfl
  have hflow : evaluate l v = if met = [] then noFlowTest l (thresholdTest l d v) else enterStopping l met v := by
    rw [evaluate_of_flowing hd ((LineState.flows_iff _).mpr hst) hv, flowingTest, hmet]
  have hslow : slow ↔ v.lineState l = .flowing ∧ reached (slowdownThreshold v l d) d.billed = true :=
    and_congr_right fun _ => (slowdownThreshold_reached_iff v l d).symm
  refine ⟨fun hm => hflow.trans (if_neg hm), fun hm hs => ?_, fun hm hs hf => ?_, fun hm hs hf => ?_, fun h0 hn => ?_,
    fun h0 hn => ?_, fun h0 => if_neg h0⟩
  · obtain ⟨hflowing, hreached⟩ := hslow.mp hs
    rw [hflow, if_pos hm, thresholdTest, if_pos hflowing, if_pos hreached]
  · obtain ⟨hflowing, hopen, hsoft⟩ := hf
    rw [hflow, if_pos hm, thresholdTest, if_pos hflowing, if_neg fun hr => hs (hslow.mpr ⟨hflowing, hr⟩),
      if_pos ⟨hopen, hsoft⟩]
    rfl
  · rw [hflow, if_pos hm, thresholdTest]
    split
    · next hflowing =>
      have hclosed : ¬((v.valve.get l).commanded = .openSlow ∧ (v.settings.lines.get l).softStart ≤ runVolume d) :=
        fun hr => hf ⟨hflowing, hr⟩
      rw [if_neg fun hr => hs (hslow.mpr ⟨hflowing, hr⟩), if_neg hclosed]
    · rfl
  · rw [noFlowTest, if_pos h0, if_pos hn]
  · rw [noFlowTest, if_pos h0, if_neg hn]

/-! ### A line elsewhere -/

theorem evaluate_of_none {l : LineId} {s : State} (hd : s.ctx l = none) : evaluate l s = s := by
  unfold evaluate
  rw [hd]

theorem evaluate_of_stopped {l : LineId} {s : State} {d : Delivery} (hd : s.ctx l = some d)
    (h : (s.lineState l).flows = false) :
    evaluate l s = completeStopping l (faultTest l (meterFaults s l d) s) := by
  unfold evaluate
  rw [hd]
  exact congrArg (completeStopping l) (if_neg (Bool.not_eq_true _ ▸ h))

theorem meterFaults_eq (s : State) (l : LineId) (d : Delivery) :
    meterFaults s l d =
      ([(decide ((s.cal.lines.get l).integrityLimit < d.integrityErrors), StopCause.pulserFault),
        (decide (1 ≤ d.reversePulses ∧
          (s.cal.lines.get l).reverseLimit * (s.cal.lines.get l).k ≤ d.reversePulses * 1000), .reverseFlow)].filter
        fun x => x.1).map fun x => x.2 := by
  unfold meterFaults
  rw [reverseFlowMet_eq]
  rfl

/-- In IDLE, ARMED and CLOSING a fault does nothing (R95). -/
theorem faultTest_of_outside {l : LineId} {s : State}
    (h : s.lineState l = .idle ∨ s.lineState l = .armed ∨ s.lineState l = .closing) (faults : List StopCause) :
    faultTest l faults s = s := by
  unfold faultTest
  split
  · rfl
  · rcases h with h | h | h <;> rw [h]

theorem modCtx_lineState (s : State) (l : LineId) (f : Delivery → Delivery) :
    (s.modCtx l f).lineState l = s.lineState l := by
  cases l <;> rfl

/-- Settles O16: a fault acts by the line's state, and only a line in STOPPING is then tested for completion. -/
theorem stoppedLineTests : Obligations.StoppedLineTests := by
  unfold Obligations.StoppedLineTests
  refine ⟨fun l v hd => evaluate_of_none hd, fun l v d hd => ?_⟩
  intro cal tests met
  have hstopped : ∀ {st}, v.lineState l = st → st.flows = false →
      evaluate l v = completeStopping l (faultTest l met v) := fun hst hf => by
    rw [evaluate_of_stopped hd (hst ▸ hf), meterFaults_eq]
  have hnone : met = [] → faultTest l met v = v := fun hm => if_pos hm
  have helsewhere : ∀ {st u}, u.lineState l = st → st ≠ .stopping → completeStopping l u = u :=
    fun hu hst => completeStopping_of_elsewhere (hu ▸ hst)
  refine ⟨?outside, ?unmet, ?stopping, ?airHold, ?joins, ?suspended, ?suspends⟩
  case outside =>
    intro h
    have hfault : faultTest l met v = v := faultTest_of_outside h met
    rcases h with h | h | h <;> rw [hstopped h rfl, hfault] <;> exact helsewhere h (by decide)
  case unmet =>
    rintro hm (h | h | h | h | h) <;> rw [hstopped h rfl, hnone hm] <;> exact helsewhere h (by decide)
  case stopping => exact fun hm h => by rw [hstopped h rfl, hnone hm]
  case airHold => exact fun hm h => by rw [hstopped h rfl, faultTest, if_neg hm, h]
  case joins => exact fun hm h => by rw [hstopped h rfl, faultTest, if_neg hm, h]
  case suspended =>
    intro hm h
    rw [hstopped h rfl, faultTest, if_neg hm, h]
    exact helsewhere ((modCtx_lineState v l _).trans h) (by decide)
  case suspends =>
    rintro hm (h | h | h) <;> rw [hstopped h rfl, faultTest, if_neg hm, h] <;>
      exact helsewhere (enterState_lineState l .suspended _) (by decide)

end Sys2Proof.Machine

namespace Sys2Proof.Machine

/-! ## Air frames (R90, R91, R163) -/

/-- A line that has heard AIR_PRESENT (R90). -/
def airPresent (l : LineId) (s : State) : State :=
  s.modLine l fun ln =>
    { ln with airSilence := some (s.awake + 5000000), airSilent := false, airFlag := true, airClear := none }

/-- The delivery of a line is marked as one in which air was seen (R90). -/
def markAirSeen (l : LineId) (s : State) : State :=
  s.modCtx l fun d => { d with flags := { d.flags with airSeen := true } }

theorem markAirSeen_markAirSeen (l : LineId) (s : State) : markAirSeen l (markAirSeen l s) = markAirSeen l s := by
  unfold markAirSeen State.modCtx State.modKept
  rw [State.modLine_modLine]
  simp only [Option.map_map, Function.comp_def]

theorem airPresent_lineState (l : LineId) (s : State) : (airPresent l s).lineState l = s.lineState l := by
  cases l <;> rfl

theorem markAirSeen_lineState (l : LineId) (s : State) : (markAirSeen l s).lineState l = s.lineState l :=
  modCtx_lineState s l _

/-- AIR_PRESENT by the line's state: in the states of a delivery it is marked, and a flowing line is held (R90). -/
theorem takeAirPresent_eq (l : LineId) (s : State) :
    takeAirPresent l s = match s.lineState l with
      | .flowing => enterAirHold l .flowing (markAirSeen l (airPresent l s))
      | .slowdown => enterAirHold l .slowdown (markAirSeen l (airPresent l s))
      | .stopping => (markAirSeen l (airPresent l s)).modLine l fun ln => { ln with airInStop := true }
      | st => if st.routes then markAirSeen l (airPresent l s) else airPresent l s := by
  have hheard : (hearAir l s).modLine l (fun ln => { ln with airFlag := true, airClear := none }) = airPresent l s :=
    State.modLine_modLine ..
  have hst : (if (s.lineState l).routes then markAirSeen l (airPresent l s) else airPresent l s).lineState l =
      s.lineState l := by
    split
    · rw [markAirSeen_lineState, airPresent_lineState]
    · exact airPresent_lineState l s
  unfold takeAirPresent
  dsimp only
  unfold markAirSeen at hst
  rw [hheard, airPresent_lineState, hst]
  cases s.lineState l <;> rfl

/-- A line that air holds from a flowing state (R90). -/
theorem enterAirHold_markAirSeen (l : LineId) (r : ResumeState) (s : State) :
    enterAirHold l r (markAirSeen l s) = enterState l .airHold ((markAirSeen l s).modLine l fun ln =>
      { ln with resume := some r, airHold := some (s.awake + s.settings.airHold * 1000000) }) := by
  show enterState l .airHold ((markAirSeen l (markAirSeen l s)).modLine l _) = _
  rw [markAirSeen_markAirSeen]
  rfl

theorem takeAirClear_eq (l : LineId) (s : State) :
    takeAirClear l s = s.modLine l fun ln =>
      { ln with
        airSilence := some (s.awake + 5000000)
        airSilent := false
        airClear := if ln.airFlag = true ∧ ln.airClear = none then some (s.awake + 2000000) else ln.airClear } := by
  unfold takeAirClear hearAir
  exact State.modLine_modLine ..

theorem takeAirFrame_power (l : LineId) (data : List Byte) (s : State) : (takeAirFrame l data s).power = s.power := by
  unfold takeAirFrame
  split
  · rfl
  · split
    · exact takeAirPresent_power l s
    · split <;> rfl

/-- An air frame at its line (R163). -/
theorem exec_fieldFrame_of_air {s : State} {f : Frame} {l : LineId} (hrun : Running s)
    (hoff : s.forward.fieldOff = false) (hwake : s.power.wakeDelay = none) (hblock : inBlock s f = false)
    (howner : fieldOwner s.cal f = some (.air l)) :
    exec (.fieldFrameArrival f) s = .next (settle s (if s.power.holdup then takeAirFrame l f.data s
      else forwardFrame .fieldToCab f (takeAirFrame l f.data s))) := by
  have hconsume : consume f s = takeAirFrame l f.data s := by simp only [consume, howner]
  refine congrArg Host.Outcome.next ?_
  rw [event_of_on hrun.supplied, takeFieldFrame_of_heard hrun hoff hwake hblock, hconsume, takeAirFrame_power]

/-- Settles O24: the first byte of the frame decides between the two reports, and AIR_PRESENT acts by the line's
state. -/
theorem airFramesAct : Obligations.AirFramesAct := by
  unfold Obligations.AirFramesAct
  intro l f s hrun hoff hwake hblock howner onward result present seen hold
  have hresult : ∀ {q}, takeAirFrame l f.data s = q → result = .next (settle s (onward q)) := fun hq => by
    rw [← hq]
    exact exec_fieldFrame_of_air hrun hoff hwake hblock howner
  have hheld : ∀ r, enterAirHold l r (markAirSeen l (airPresent l s)) = hold r := fun r => enterAirHold_markAirSeen ..
  refine ⟨fun hdata => hresult (by rw [hdata]; rfl), fun b rest hdata => ⟨fun h1 h2 => ?ignored, fun h1 => ?present,
    fun h2 => ?clear⟩⟩
  case ignored => exact hresult (by rw [hdata, takeAirFrame, if_neg h1, if_neg h2])
  case clear =>
    have h1 : b ≠ 1 := h2 ▸ by decide
    exact hresult (by rw [hdata, takeAirFrame, if_neg h1, if_pos h2, takeAirClear_eq])
  case present =>
    have htake : takeAirFrame l f.data s = takeAirPresent l s := by rw [hdata, takeAirFrame, if_pos h1]
    rw [takeAirPresent_eq] at htake
    refine ⟨fun hst => hresult ?_, fun hst => hresult ?_, fun hst => hresult ?_, fun hst => hresult ?_,
      fun hst => hresult ?_⟩
    · rw [htake, hst, ← hheld]
    · rw [htake, hst, ← hheld]
    · rw [htake, hst]
      rfl
    · rcases hst with hst | hst | hst | hst | hst <;> (rw [htake, hst]; rfl)
    · rcases hst with hst | hst | hst <;> (rw [htake, hst]; rfl)

end Sys2Proof.Machine

namespace Sys2Proof.Machine

/-! ## ARM FLUSH, DISARM, START and RESUME, PAUSE, STOP and EMERGENCY STOP (R71, R73 to R79) -/

/-! ### ARM FLUSH (R46, R52, R69, R73) -/

/-- A command row at the ready port, by its owner's answer without data. -/
theorem next_of_plain {s q : State} {c : Command} {st : Status} (h : PortReady s)
    (hrun : runCommand c s = (q, plain st)) (tag : Nat) :
    (.next (takeCommand tag c s) : Host.Outcome State Fault Refusal) = .next (settle s (replied c.code tag st [] q)) :=
  congrArg Host.Outcome.next (takeCommand_of_reply h hrun tag)

theorem grantedToOther_iff (s : State) (l : LineId) (c : CompartmentNo) :
    grantedToOther s l c = true ↔ s.compartments[c].granted ≠ none ∧ s.compartments[c].granted ≠ some l := by
  unfold grantedToOther
  cases s.compartments[c].granted <;> simp

section
variable {s : State} {l : LineId} {c : CompartmentNo} {kind : DeliveryKind}

theorem openRefusal_of_busy (h : s.compartments[c].granted ≠ none ∧ s.compartments[c].granted ≠ some l) :
    openRefusal s l c kind = some .compartmentBusy := if_pos ((grantedToOther_iff s l c).mpr h)

/-- The checks that follow where the compartment is free for the line. -/
theorem openRefusal_of_free (h : ¬(s.compartments[c].granted ≠ none ∧ s.compartments[c].granted ≠ some l)) :
    openRefusal s l c kind =
      if s.compartments[c].remaining ≤ s.compartments[c].reserve then some .compartmentLow
      else if canReserve s.journal kind.recordKind then none
      else some .journalFull := by
  rw [openRefusal, if_neg (mt (grantedToOther_iff s l c).mp h)]
  cases canReserve s.journal kind.recordKind <;> simp [compartmentLow]

/-- ARM FLUSH of a calibrated line in IDLE (R73). -/
theorem armFlushLine_of_idle (hst : s.lineState l = .idle) (hk : (s.cal.lines.get l).k ≠ 0) (comp : Nat) :
    armFlushLine l comp s =
      match compartmentOfNumber comp with
      | none => (s, plain .parameter)
      | some c =>
        match s.compartments[c].product with
        | none => (s, plain .productMismatch)
        | some p =>
          if !s.cal.products[p].defined then (s, plain .parameter)
          else
            match openRefusal s l c .flush with
            | some st => (s, plain st)
            | none => (openDelivery l (freshDelivery s l .flush p c) s, plain .ok) :=
  (if_neg (not_not.mpr hst)).trans (if_neg hk)

/-- The last checks of ARM FLUSH, on a compartment that holds a defined product (R73). -/
theorem armFlushLine_of_defined {p : ProductNo} (hst : s.lineState l = .idle) (hk : (s.cal.lines.get l).k ≠ 0)
    (hp : s.compartments[c].product = some p) (hdef : s.cal.products[p].defined = true) :
    armFlushLine l (c.val + 1) s =
      match openRefusal s l c .flush with
      | some st => (s, plain st)
      | none => (openDelivery l (freshDelivery s l .flush p c) s, plain .ok) := by
  rw [armFlushLine_of_idle hst hk, compartmentOfNumber_succ]
  simp only [hp, hdef, Bool.not_true, Bool.false_eq_true, if_false]

end

/-- Settles O28: the checks of ARM FLUSH in their order, and the FLUSH that `openDelivery` opens. -/
theorem armFlushChecksAndOpens : Obligations.ArmFlushChecksAndOpens := by
  unfold Obligations.ArmFlushChecksAndOpens
  intro tag line comp s h
  dsimp only
  refine ⟨fun h1 h2 => ?noLine, ?onLine⟩
  case noLine =>
    exact congrArg Host.Outcome.next (takeCommand_of_noLine h (lineOfNumber_eq_none h1 h2) rfl tag)
  case onLine =>
    rintro l rfl
    have answers : ∀ {q st}, armFlushLine l comp s = (q, plain st) →
        exec (.armFlush tag (lineNumber l) comp) s = .next (settle s (replied 0x11 tag st [] q)) := fun harm => by
      refine next_of_plain h ?_ tag
      rw [← harm, runCommand, ownerArmFlush, onLine, lineOfNumber_lineNumber]
    refine ⟨fun hst => answers (if_pos hst), fun hst hk => answers ?_, fun hst hk => ⟨fun hc => answers ?_, ?_⟩⟩
    · rw [armFlushLine, if_neg (not_not.mpr hst), if_pos hk]
    · rw [armFlushLine_of_idle hst hk, compartmentOfNumber_eq_none hc]
    rintro c rfl
    refine ⟨fun hp => answers ?_, fun p hp => ⟨fun hdef => answers ?_, fun hdef => ?_⟩⟩
    · rw [armFlushLine_of_idle hst hk, compartmentOfNumber_succ]
      simp only [hp]
    · rw [armFlushLine_of_idle hst hk, compartmentOfNumber_succ]
      simp only [hp, hdef, Bool.not_false, if_true]
    have harm := armFlushLine_of_defined hst hk hp hdef
    refine ⟨fun hbusy => answers ?_, fun hfree hlow => answers ?_, fun hfree hroom hfull => answers ?_,
      fun hfree hroom hplace => answers ?_⟩
    · rw [harm, openRefusal_of_busy hbusy]
    · rw [harm, openRefusal_of_free hfree, if_pos hlow]
    · have hno : ¬canReserve s.journal DeliveryKind.flush.recordKind = true := Bool.not_eq_true _ ▸ hfull
      rw [harm, openRefusal_of_free hfree, if_neg (Int.not_le.mpr hroom), if_neg hno]
    · have hyes : canReserve s.journal DeliveryKind.flush.recordKind = true := hplace
      rw [harm, openRefusal_of_free hfree, if_neg (Int.not_le.mpr hroom), if_pos hyes]
      rfl

/-! ### DISARM (R48, R64, R74, R122) -/

/-- The order of a delivery is WAITING again; a FLUSH has none (R64). -/
theorem unbindOrders_eq (order : Option Nat) (orders : List Order) :
    (match order with
      | none => orders
      | some n => bindOrder n none orders) =
      orders.map fun x => if order = some x.number then { x with bound := none } else x := by
  cases order with
  | none => simp
  | some n => simp [bindOrder, eq_comm (a := n)]

theorem undoArm_eq (l : LineId) (d : Delivery) (s : State) :
    undoArm l d s = enterState l .idle
      { s with
        line := s.line.set l { s.line.get l with
          kept := { (s.line.get l).kept with
            ctx := none, unattended := (s.line.get l).kept.unattended + d.unattendedBefore } }
        compartments := s.compartments.set d.compartment { s.compartments[d.compartment] with granted := none }
        orders := s.orders.map fun x => if d.order = some x.number then { x with bound := none } else x
        journal := { s.journal with reservations := s.journal.reservations.filter fun r => r.holder ≠ .line l } } := by
  rw [← unbindOrders_eq]
  unfold undoArm
  cases d.order <;> rfl

/-- Settles O29: DISARM of an ARMED line is `undoArm_eq`, and every other state refuses it. -/
theorem disarmUndoesArm : Obligations.DisarmUndoesArm := by
  unfold Obligations.DisarmUndoesArm
  intro tag l s h
  refine ⟨fun hst => next_of_plain h ?_ tag, fun d hst hd => ?_⟩
  · simp only [runCommand, ownerDisarm, onLine, lineOfNumber_lineNumber]
    split
    · next harmed _ => exact absurd harmed hst
    · rfl
  · intro kept
    have hrun : runCommand (.disarm (lineNumber l)) s = (undoArm l d s, plain .ok) := by
      simp only [runCommand, ownerDisarm, onLine, lineOfNumber_lineNumber, hst, hd]
    rw [undoArm_eq] at hrun
    exact next_of_plain h hrun tag

/-! ### START and RESUME (R75, R76) -/

theorem State.modCtx_const {s : State} {l : LineId} {d : Delivery} (hd : s.ctx l = some d) (f : Delivery → Delivery) :
    s.modCtx l f = s.modCtx l fun _ => f d := by
  rw [State.modCtx_of_some hd, State.modCtx_of_some hd]

section
variable {s : State} {l : LineId} {d : Delivery}

theorem flowRefusal_of_absent (h : (s.line.get l).temp = none) : flowRefusal s l d = some .tempAbsent := by
  rw [flowRefusal, h]
  rfl

theorem flowRefusal_of_present (h : (s.line.get l).temp ≠ none) :
    flowRefusal s l d =
      if s.compartments[d.compartment].remaining ≤ s.compartments[d.compartment].reserve then some .compartmentLow
      else none := by
  rw [flowRefusal, if_neg (mt Option.isNone_iff_eq_none.mp h)]
  simp only [compartmentLow, decide_eq_true_eq]

/-- The state that START and RESUME enter: by the slowdown threshold, and AIR_HOLD while the air flag is set (R75). -/
theorem beginFlow_modCtx (hd : s.ctx l = some d) (r : ResumeState) (f : Delivery → Delivery) :
    beginFlow l r (s.modCtx l f) =
      if (s.line.get l).airFlag = true then enterAirHold l r (s.modCtx l fun _ => f d)
      else enterState l r.toLineState (s.modCtx l fun _ => f d) := by
  have hair : ((s.modCtx l fun _ => f d).line.get l).airFlag = (s.line.get l).airFlag := by cases l <;> rfl
  rw [State.modCtx_const hd, beginFlow, hair]

theorem entryState_of_slow
    (h : ∃ p, d.kind = .delivery ∧ d.preset = some p ∧ p - (s.settings.lines.get l).slowdown ≤ d.billed) :
    entryState s l d = .slowdown := if_pos ((slowdownThreshold_reached_iff s l d).mpr h)

theorem entryState_of_fast
    (h : ¬∃ p, d.kind = .delivery ∧ d.preset = some p ∧ p - (s.settings.lines.get l).slowdown ≤ d.billed) :
    entryState s l d = .flowing := if_neg (mt (slowdownThreshold_reached_iff s l d).mp h)

theorem presetReached_iff (s : State) (l : LineId) (d : Delivery) :
    presetReached s l d = true ↔
      (∃ p, d.kind = .delivery ∧ d.preset = some p ∧
        max (p - (s.settings.lines.get l).closeAhead) (p / 2) ≤ d.billed) ∨ 50000000 ≤ d.billed := by
  rw [presetReached, Bool.or_eq_true, stopThreshold_reached_iff, exists_and_left]
  exact or_congr_right decide_eq_true_iff

end

/-- What START and RESUME enter, once their checks have passed (R75, R76). -/
theorem begins_of_run {s : State} {l : LineId} {d e : Delivery} {c : Command} {tag : Nat} (h : PortReady s)
    (hd : s.ctx l = some d) {f : Delivery → Delivery} (hf : f d = e)
    (hrun : runCommand c s = (beginFlow l (entryState s l d) (s.modCtx l f), plain .ok)) :
    let slow := ∃ p, d.kind = .delivery ∧ d.preset = some p ∧ p - (s.settings.lines.get l).slowdown ≤ d.billed
    let w := s.modCtx l fun _ => e
    let gives := fun q => (.next (takeCommand tag c s) : Host.Outcome State Fault Refusal) =
      .next (settle s (replied c.code tag .ok [] q))
    ((s.line.get l).airFlag = false → slow → gives (enterState l .slowdown w)) ∧
      ((s.line.get l).airFlag = false → ¬slow → gives (enterState l .flowing w)) ∧
      (¬(s.line.get l).airFlag = false → slow → gives (enterAirHold l .slowdown w)) ∧
      (¬(s.line.get l).airFlag = false → ¬slow → gives (enterAirHold l .flowing w)) := by
  subst hf
  intro slow w gives
  rw [beginFlow_modCtx hd] at hrun
  have hgives : ∀ {q}, (if (s.line.get l).airFlag = true then enterAirHold l (entryState s l d) w
      else enterState l (entryState s l d).toLineState w) = q → gives q := fun hq =>
    next_of_plain h (hq ▸ hrun) tag
  refine ⟨fun hair hslow => hgives ?_, fun hair hslow => hgives ?_, fun hair hslow => hgives ?_,
    fun hair hslow => hgives ?_⟩
  · rw [hair, if_neg Bool.false_ne_true, entryState_of_slow hslow]
    rfl
  · rw [hair, if_neg Bool.false_ne_true, entryState_of_fast hslow]
    rfl
  · rw [if_pos (Bool.not_eq_false _ ▸ hair), entryState_of_slow hslow]
  · rw [if_pos (Bool.not_eq_false _ ▸ hair), entryState_of_fast hslow]

/-- Settles O30: the checks in their order, and the entry that START and RESUME share. -/
theorem startAndResumeBeginFlow : Obligations.StartAndResumeBeginFlow := by
  unfold Obligations.StartAndResumeBeginFlow
  refine ⟨fun tag l s h => ⟨fun hst => next_of_plain h ?_ tag, fun hp hi => next_of_plain h ?_ tag⟩, ?_⟩
  · simp only [runCommand, ownerStart, onLine, lineOfNumber_lineNumber]
    split
    · next harmed _ => exact absurd harmed hst
    · rfl
  · simp only [runCommand, ownerResume, onLine, lineOfNumber_lineNumber]
    split
    · next hint => exact absurd hint hi
    · next hpaused _ => exact absurd hpaused hp
    · rfl
  intro tag l d s h hd k set airless slow reachedPreset begins start resume refused unlocked
  have hstart : s.lineState l = .armed → runCommand (.start (lineNumber l)) s = startLine l d s := fun hst => by
    simp only [runCommand, ownerStart, onLine, lineOfNumber_lineNumber, hst, hd]
  have hresume : s.lineState l = .paused → runCommand (.resume (lineNumber l)) s = resumePaused l d s := fun hst => by
    simp only [runCommand, ownerResume, onLine, lineOfNumber_lineNumber, hst, hd]
  refine ⟨fun hst htemp => next_of_plain h ?_ tag, fun hst htemp hlow => next_of_plain h ?_ tag,
    fun hst htemp hroom => begins_of_run h hd
      (f := fun d => { d with startTime := clockTime s, flags := markUnlocked s (markClock s d.flags) }) rfl ?_,
    fun hst => next_of_plain h ?_ tag,
    fun hst htemp => next_of_plain h ?_ tag, fun hst htemp => ⟨fun hlow => next_of_plain h ?_ tag,
      fun hroom hpreset => next_of_plain h ?_ tag, fun hroom hpreset =>
        begins_of_run h hd (f := fun d => { d with stopCause := none, stopTarget := none, flags := markUnlocked s d.flags })
          rfl ?_⟩⟩
  · rw [hstart hst, startLine, flowRefusal_of_absent htemp]
  · rw [hstart hst, startLine, flowRefusal_of_present htemp, if_pos hlow]
  · rw [hstart hst, startLine, flowRefusal_of_present htemp, if_neg (Int.not_le.mpr hroom)]
  · simp only [runCommand, ownerResume, onLine, lineOfNumber_lineNumber, hst]
  · rw [hresume hst, resumePaused, flowRefusal_of_absent htemp]
  · rw [hresume hst, resumePaused, flowRefusal_of_present htemp, if_pos hlow]
  · rw [hresume hst, resumePaused, flowRefusal_of_present htemp, if_neg (Int.not_le.mpr hroom)]
    exact if_pos ((presetReached_iff s l d).mpr hpreset)
  · rw [hresume hst, resumePaused, flowRefusal_of_present htemp, if_neg (Int.not_le.mpr hroom)]
    exact if_neg (mt (presetReached_iff s l d).mp hpreset)

/-! ### PAUSE, STOP and EMERGENCY STOP (R77 to R79, R112, R181) -/

/-- PAUSE, STOP and EMERGENCY STOP are taken with a command in flight as well (R181). -/
theorem next_of_plain_inFlight {s q : State} {c : Command} {st : Status} (h : CabOpen s)
    (hpend : s.port.pendingReset = none)
    (hroom : s.port.responses.length + (if s.port.inFlight = none then 0 else 1) < 4)
    (hc : takenInFlight c.code = true) (hrun : runCommand c s = (q, plain st)) (tag : Nat) :
    (.next (takeCommand tag c s) : Host.Outcome State Fault Refusal) = .next (settle s (replied c.code tag st [] q)) := by
  have hfree : freePlaces s ≠ 0 := by
    rw [freePlaces_eq, CommandPort.kept]
    cases hf : s.port.inFlight <;> simp [hf] at hroom ⊢ <;> omega
  have hbusy : portBusy s c.code = false := by
    simp [portBusy, hc, hpend]
  rw [takeCommand_of_open h, takeCommandFrame, if_neg hfree, decideCommand, knownCode_code, hbusy]
  simp only [Bool.not_true, Bool.false_eq_true, if_false, hrun]
  rfl

theorem runCommand_pause (l : LineId) (s : State) :
    runCommand (.pause (lineNumber l)) s =
      if (s.lineState l = .flowing ∨ s.lineState l = .slowdown ∨ s.lineState l = .airHold) ∨ s.lineState l = .stopping
      then (stopOn l .operatorPause s, plain .ok)
      else (s, plain .state) := by
  simp only [runCommand, ownerPause, onLine, lineOfNumber_lineNumber]
  cases s.lineState l <;> simp

theorem runCommand_stop (l : LineId) (s : State) :
    runCommand (.stop (lineNumber l)) s =
      if (s.lineState l = .flowing ∨ s.lineState l = .slowdown ∨ s.lineState l = .airHold) ∨ s.lineState l = .stopping
      then (stopOn l .operatorStop s, plain .ok)
      else if s.lineState l = .paused then (finishPaused l s, plain .ok)
      else (s, plain .state) := by
  simp only [runCommand, ownerStop, onLine, lineOfNumber_lineNumber]
  cases s.lineState l <;> simp

/-- Settles O31: PAUSE and STOP by the line's state, and EMERGENCY STOP as `stopOn_eq` on both lines. -/
theorem pauseStopAndEmergencyStop : Obligations.PauseStopAndEmergencyStop := by
  unfold Obligations.PauseStopAndEmergencyStop
  intro tag l s h hpend hroom pauses stops moving
  have answers : ∀ {c q st}, takenInFlight c.code = true → runCommand c s = (q, plain st) →
      (.next (takeCommand tag c s) : Host.Outcome State Fault Refusal) = .next (settle s (replied c.code tag st [] q)) :=
    fun hc hrun => next_of_plain_inFlight h hpend hroom hc hrun tag
  refine ⟨fun hm => ?stops, fun hst => ?joins, fun hst => ?finishes, fun hm hst => ?pauseRefused,
    fun hm hst hp => ?stopRefused, ?emergency⟩
  case stops =>
    have hon : ∀ c, stopOn l c s = enterStopping l [c] s := fun c => (stopOn_eq l c s).trans (if_pos hm)
    constructor
    · exact answers rfl (by rw [runCommand_pause, if_pos (.inl hm), hon])
    · exact answers rfl (by rw [runCommand_stop, if_pos (.inl hm), hon])
  case joins =>
    have hon : ∀ c, stopOn l c s = furtherCauses l [c] s := fun c => by
      rw [stopOn_eq, hst]
      rfl
    constructor
    · exact answers rfl (by rw [runCommand_pause, if_pos (.inr hst), hon])
    · exact answers rfl (by rw [runCommand_stop, if_pos (.inr hst), hon])
  case finishes =>
    have hno : ¬(moving ∨ s.lineState l = .stopping) := by simp [moving, hst]
    exact answers rfl ((runCommand_stop l s).trans ((if_neg hno).trans (if_pos hst)))
  case pauseRefused =>
    exact answers rfl ((runCommand_pause l s).trans (if_neg (not_or.mpr ⟨hm, hst⟩)))
  case stopRefused =>
    exact answers rfl ((runCommand_stop l s).trans ((if_neg (not_or.mpr ⟨hm, hst⟩)).trans (if_neg hp)))
  case emergency =>
    intro acts
    have hon : ∀ m q, stopOn m .emergencyStop q = acts m q := fun m q => stopOn_eq m _ q
    have hrun : runCommand .emergencyStop s =
        (closeBothValves .emergencyStop (acts .line2 (acts .line1 s)), plain .ok) := by
      rw [← hon, ← hon]
      rfl
    exact answers rfl hrun

end Sys2Proof.Machine

namespace Sys2Proof.Machine

/-! ## The completion of a write, and a failure of the storage medium (R100, R114, R117, R126 to R128, R141, R148, R156,
R157) -/

/-! ### A line's write (R48, R55, R65, R100) -/

/-- A completion that no release waits for is its requester's act alone (R127). -/
theorem exec_writeCompletion_of_head {s : State} {w : JournalWrite} {rest : List JournalWrite} (hon : s.power.on = true)
    (hwait : s.power.releaseWaiting = false) (hqueue : s.journal.queue = w :: rest)
    (hpower : (reportCompletion w { s with journal := completeWrite w rest s.journal }).power = s.power) :
    exec .writeCompletion s =
      .next (settle s (reportCompletion w { s with journal := completeWrite w rest s.journal })) := by
  refine congrArg Host.Outcome.next ((event_of_on hon).trans (congrArg (settle s) ?_))
  unfold takeWriteCompletion
  rw [hqueue]
  dsimp only
  rw [hpower, hwait, if_neg Bool.false_ne_true]

/-- The order of a delivery leaves the queue; a FLUSH has none (R65). -/
theorem removeOrders_eq (order : Option Nat) (orders : List Order) :
    (match order with
      | none => orders
      | some n => removeOrder n orders) = orders.filter fun x => order ≠ some x.number := by
  cases order with
  | none => simp
  | some n => simp [removeOrder, eq_comm (a := n)]

theorem hoseAfter_eq (s : State) (l : LineId) (d : Delivery) :
    hoseAfter s l d =
      if d.kind = .delivery then (s.line.get l).kept.hose
      else if (s.cal.lines.get l).hoseVolume ≤ d.gross then .product d.product else .mixed := by
  unfold hoseAfter
  cases d.kind <;> rfl

/-- A line leaves CLOSING: the grant, the order, the hose product and the context are settled (R100). -/
theorem closeLine_of_some {s : State} {l : LineId} {d : Delivery} (hd : s.ctx l = some d) :
    closeLine l s = enterState l .idle
      { s with
        compartments := s.compartments.set d.compartment { s.compartments[d.compartment] with granted := none }
        orders := s.orders.filter fun x => d.order ≠ some x.number
        line := s.line.set l { s.line.get l with
          kept := { (s.line.get l).kept with hose := hoseAfter s l d, ctx := none } } } := by
  rw [← removeOrders_eq]
  unfold closeLine
  rw [hd]
  dsimp only
  cases d.order <;> rfl

/-! ### A calibration write (R114, R141, R148, R156, R157) -/

/-- What the application of a record leaves of the rest of the part. -/
structure RecordApplied (r : CalibrationRecord) (s t : State) : Prop where
  eventCount : t.cal.eventCount = r.newCount
  journal : t.journal = s.journal
  port : t.port = s.port
  power : t.power = s.power
  now : t.now = s.now
  lockState : t.lock.state = s.lock.state

theorem applyRecord_applied (level : Bool) (r : CalibrationRecord) (s : State) :
    RecordApplied r s (applyRecord level r s) := by
  unfold applyRecord itemEffect
  dsimp only
  split
  · split <;> exact ⟨rfl, rfl, rfl, rfl, rfl, rfl⟩
  · next which _ => cases which <;> exact ⟨rfl, rfl, rfl, rfl, rfl, rfl⟩
  · exact ⟨rfl, rfl, rfl, rfl, rfl, rfl⟩

theorem completeRecord_applied (r : CalibrationRecord) (s : State) : RecordApplied r s (completeRecord r s) :=
  applyRecord_applied _ r s

section
variable {r : CalibrationRecord} {s : State}

theorem completeRecord_of_item {sel : ItemSel} (h : r.item = .item sel) :
    completeRecord r s =
      { itemEffect sel { s with cal := setItem s.cal sel r.newValue } with
        cal := { setItem s.cal sel r.newValue with eventCount := r.newCount } } := by
  simp only [completeRecord, applyRecord, h, itemEffect_cal]

theorem completeRecord_of_credential {which : CredentialKind} (h : r.item = .credential which) :
    completeRecord r s =
      { s with
        lock := takeStaged which (if which = .inspector then valueStrict r.newValue else s.lock.strict) s.lock
        cal := { s.cal with eventCount := r.newCount } } := by
  simp only [completeRecord, applyRecord, h, RecordItem.credential.injEq]

theorem completeRecord_of_lock (h : r.item = .lock) :
    completeRecord r s =
      { s with
        lock := { s.lock with inspector := none, fleet := none, strict := false, staged := none }
        cal := { s.cal with eventCount := r.newCount } } := by
  simp only [completeRecord, applyRecord, h]

theorem itemEffect_lock (sel : ItemSel) (s : State) : (itemEffect sel s).lock = s.lock := by
  unfold itemEffect
  split <;> rfl

/-- The remainders go to 0 with a new K-factor (R141). -/
theorem itemEffect_kept (sel : ItemSel) (s : State) (l : LineId) :
    ((itemEffect sel s).line.get l).kept =
      if sel = .kFactor l then { (s.line.get l).kept with grossRem := 0, netRem := 0 } else (s.line.get l).kept := by
  unfold itemEffect
  split
  · next m =>
    rw [State.modKept_line, PerLine.get_set]
    simp only [ItemSel.kFactor.injEq, eq_comm (a := m)]
    split
    · next e => rw [e]
    · rfl
  · simp
  · next hk _ => rw [if_neg (hk l)]

/-- CLOSE goes to a valve with a new identifier, and its report is forgotten (R114). -/
theorem itemEffect_valve (sel : ItemSel) (s : State) (l : LineId) :
    (itemEffect sel s).valve.get l =
      if sel = .valveId l then
        { commanded := .close, sendCount := 1, confirmed := false, confirmTimer := some (s.awake + 500000),
          escalated := false, retryTimer := none, reported := none, slot := some .close }
      else s.valve.get l := by
  unfold itemEffect
  split
  · simp
  · next m =>
    simp only [State.modValve_valve, issueStage, PerLine.set_set, PerLine.get_set, ItemSel.valveId.injEq,
      eq_comm (a := m), confirmWindow]
    rfl
  · next _ hv => rw [if_neg (hv l)]

end

/-- The relock timer of the lock after an accepted or completed calibration command (R154). -/
def relocked (s : State) : Timer :=
  match s.lock.state with
  | .unlocked _ => some (s.now + 900000000)
  | _ => s.lock.relock

theorem restartRelock_eq (s : State) : restartRelock s = { s with lock := { s.lock with relock := relocked s } } := by
  unfold restartRelock relocked
  cases s.lock.state <;> rfl

/-- The completion of a calibration write, once its record is applied: the relock timer, and the answer to the command in
flight (R148, R154, R181). -/
theorem answerInFlight_restartRelock {s : State} {i : InFlight} (hi : s.port.inFlight = some i) (q : Nat) :
    answerInFlight q (restartRelock s) =
      { s with
        lock := { s.lock with relock := relocked s }
        port := { s.port with
          inFlight := none
          responses := s.port.responses ++
            [{ frame := responseFrame s.port.address i.code i.tag .ok (b4 s.cal.eventCount ++ b4 q),
               performs := performsOf i.code .ok }] } } := by
  rw [restartRelock_eq, answerInFlight]
  simp only [hi]
  rfl

/-- The state that the completion of a calibration write leaves, before the event settles. -/
def calibrationCompleted (w : JournalWrite) (rest : List JournalWrite) (r : CalibrationRecord) (i : InFlight)
    (s : State) : State :=
  { completeRecord r { s with journal := completeWrite w rest s.journal } with
    lock := { (completeRecord r { s with journal := completeWrite w rest s.journal }).lock with
      relock := relocked (completeRecord r { s with journal := completeWrite w rest s.journal }) }
    port := { s.port with
      inFlight := none
      responses := s.port.responses ++
        [{ frame := responseFrame s.port.address i.code i.tag .ok (b4 r.newCount ++ b4 w.sequence),
           performs := performsOf i.code .ok }] } }

theorem reportCompletion_of_calibration {w : JournalWrite} {r : CalibrationRecord} {i : InFlight} {s : State}
    (hholder : w.holder = .calibration) (hcontents : w.contents = .calibration r) (hi : s.port.inFlight = some i)
    (rest : List JournalWrite) :
    reportCompletion w { s with journal := completeWrite w rest s.journal } = calibrationCompleted w rest r i s := by
  have happlied := completeRecord_applied r { s with journal := completeWrite w rest s.journal }
  have hflight : (completeRecord r { s with journal := completeWrite w rest s.journal }).port.inFlight = some i := by
    rw [happlied.port]
    exact hi
  unfold reportCompletion
  simp only [hholder, hcontents]
  rw [answerInFlight_restartRelock hflight, happlied.port, happlied.eventCount]
  rfl

theorem exec_writeCompletion_of_calibration {w : JournalWrite} {rest : List JournalWrite} {r : CalibrationRecord}
    {i : InFlight} {s : State} (hon : s.power.on = true) (hwait : s.power.releaseWaiting = false)
    (hqueue : s.journal.queue = w :: rest) (hholder : w.holder = .calibration) (hcontents : w.contents = .calibration r)
    (hi : s.port.inFlight = some i) :
    exec .writeCompletion s = .next (settle s (calibrationCompleted w rest r i s)) := by
  have hreport := reportCompletion_of_calibration hholder hcontents hi rest
  rw [← hreport]
  refine exec_writeCompletion_of_head hon hwait hqueue ?_
  rw [hreport]
  exact (completeRecord_applied r { s with journal := completeWrite w rest s.journal }).power

/-- The lock after a staged credential is taken: the level takes the carried value for the inspector alone (R156). -/
theorem takeStaged_of_staged {which : CredentialKind} {lk : Lock} {value : BitVec 128}
    (h : lk.staged = some { which := which, value := value }) (level : Bool) :
    takeStaged which level lk = match which with
      | .inspector => { lk with inspector := some value, strict := level, staged := none }
      | .fleet => { lk with fleet := some value, strict := level, staged := none } := by
  cases which <;> (unfold takeStaged; rw [stagedFor_of_staged h]; rfl)

/-! ### The record of a write, and a failure of the storage medium (R117, R126 to R128) -/

/-- The kind of the record that a completed write leaves (R117, R126). -/
theorem writeKind_eq {j : Journal} {w : JournalWrite} {k : RecordKind}
    (h : match w.contents with
      | .calibration _ => k = .calibration
      | .delivery _ => ∃ r, j.reservations.find? (fun r => decide (r.holder = w.holder)) = some r ∧ k = r.kind) :
    writeKind j w = k := by
  unfold writeKind reservedKind
  cases hc : w.contents with
  | calibration c =>
    rw [hc] at h
    exact h.symm
  | delivery d =>
    rw [hc] at h
    obtain ⟨r, hr, hk⟩ := h
    rw [hr]
    exact hk.symm

theorem damageRecord_of_reached {n : Nat} {r : JournalRecord} (h : r.sequence = n) (left : StoredContents) :
    damageRecord n left r = { r with contents := .changed left.fields, check := left.check } := if_pos h

/-- A record that a failure of the storage medium reached is INTACT where the check value left is the one over the fields
left (R128). -/
theorem damageRecord_intact_iff {n : Nat} {r : JournalRecord} (h : r.sequence = n) (left : StoredContents) :
    (damageRecord n left r).intact = true ↔
      left.check = Config.checkValue n r.kind (storedBytes r.kind (.changed left.fields)) := by
  rw [damageRecord_of_reached h, intact_iff, ← h]

/-- Settles O39: a line's completion is `closeLine_of_some`, a calibration write's is `calibrationCompleted` by the item
of its record, and the records are those of `writtenRecord` and `damageRecord`. -/
theorem writeCompletionsAndDamage : Obligations.WriteCompletionsAndDamage := by
  unfold Obligations.WriteCompletionsAndDamage
  refine ⟨?line, ?calibration, ?record, fun n left s => rfl, ?damage⟩
  case line =>
    intro l w rest d s hon hwait hqueue hholder hd j kept hose
    have hreport : reportCompletion w { s with journal := j } = closeLine l { s with journal := j } := by
      unfold reportCompletion
      rw [hholder]
    have hclose := closeLine_of_some (s := { s with journal := j }) hd
    rw [hoseAfter_eq] at hclose
    refine (exec_writeCompletion_of_head hon hwait hqueue ?_).trans (congrArg _ (congrArg _ (hreport.trans hclose)))
    rw [hreport, hclose, enterState_power]
  case calibration =>
    intro w rest r i s hon hwait hqueue hholder hcontents hi
    have happlied := completeRecord_applied r { s with journal := completeWrite w rest s.journal }
    refine ⟨_, exec_writeCompletion_of_calibration hon hwait hqueue hholder hcontents hi, ?_⟩
    simp only [settle_journal, settle_cal, settle_port, settle_lock, settle_line, settle_valve]
    refine ⟨happlied.journal, happlied.eventCount, rfl, rfl, fun c hc => ?relock, fun sel hsel => ?item,
      fun which value hwhich hstaged => ?credential, fun hlock => ?lock⟩
    case relock =>
      have hstate : (completeRecord r { s with journal := completeWrite w rest s.journal }).lock.state = .unlocked c :=
        happlied.lockState.trans hc
      show relocked _ = _
      rw [relocked, hstate, happlied.now]
    case item =>
      have hrec := completeRecord_of_item (s := { s with journal := completeWrite w rest s.journal }) hsel
      rw [calibrationCompleted, hrec]
      have hlock := itemEffect_lock sel
        { s with journal := completeWrite w rest s.journal, cal := setItem s.cal sel r.newValue }
      exact ⟨rfl, (congrArg Lock.inspector hlock :), (congrArg Lock.fleet hlock :), (congrArg Lock.strict hlock :),
        fun l => ⟨itemEffect_kept sel _ l, itemEffect_valve sel _ l⟩⟩
    case credential =>
      have hrec := completeRecord_of_credential (s := { s with journal := completeWrite w rest s.journal }) hwhich
      rw [calibrationCompleted, hrec, takeStaged_of_staged hstaged]
      refine ⟨rfl, ?_, ?_, ?_, ?_⟩
      · cases which <;> rfl
      · cases which <;> rfl
      · rintro rfl
        refine ⟨rfl, rfl, fun set1 set2 strict hvalue => ?_⟩
        show valueStrict r.newValue = strict
        rw [hvalue]
        rfl
      · rintro rfl
        exact ⟨rfl, rfl, rfl⟩
    case lock =>
      have hrec := completeRecord_of_lock (s := { s with journal := completeWrite w rest s.journal }) hlock
      rw [calibrationCompleted, hrec]
      exact ⟨rfl, rfl, rfl, rfl, rfl, rfl⟩
  case record =>
    intro w rest j
    refine ⟨rfl, rfl, rfl, rfl, rfl, fun k hk => ?_⟩
    rw [completeWrite, writeKind_eq hk]
    rfl
  case damage =>
    intro n left r hr d
    have hiff := damageRecord_intact_iff hr left
    refine ⟨hiff, fun hbytes hintact => ?_⟩
    rw [intact_iff, hr, ← hbytes] at hintact
    rw [hiff, hintact]

end Sys2Proof.Machine

namespace Sys2Proof.Machine

/-! ## The confirmation windows, the retries and the status frames of the valves (R104 to R111, R163) -/

/-! ### When a timer of a valve is due -/

section
variable {s : State} {l : LineId}

theorem confirmDue_of_rests
    (h : (s.power.parked = true ∨ ∀ x, (s.valve.get l).confirmTimer = some x → s.awake < x) ∨
      (s.valve.get l).confirmed = true ∨ (s.valve.get l).escalated = true) : confirmDue s l = false := by
  unfold confirmDue
  rw [Bool.and_right_comm, Bool.and_right_comm _ (!(s.valve.get l).confirmed)]
  rcases h with h | h | h
  · rw [timerDue_and_running_of_rests h, Bool.false_and, Bool.false_and]
  · rw [h, Bool.not_true, Bool.and_false, Bool.false_and]
  · rw [h, Bool.not_true, Bool.and_false]

theorem retryDue_of_rests
    (h : (s.power.parked = true ∨ ∀ x, (s.valve.get l).retryTimer = some x → s.awake < x) ∨
      (s.valve.get l).escalated = false) : retryDue s l = false := by
  unfold retryDue
  rw [Bool.and_right_comm]
  rcases h with h | h
  · rw [timerDue_and_running_of_rests h, Bool.false_and]
  · rw [h, Bool.and_false]

theorem confirmDue_of_due (hp : s.power.parked = false)
    (h : ∃ x, (s.valve.get l).confirmTimer = some x ∧ x ≤ s.awake) (hc : (s.valve.get l).confirmed = false)
    (he : (s.valve.get l).escalated = false) : confirmDue s l = true := by
  rw [confirmDue, timerDue_of_due h, hc, he, hp]
  rfl

theorem retryDue_of_due (hp : s.power.parked = false)
    (h : ∃ x, (s.valve.get l).retryTimer = some x ∧ x ≤ s.awake) (he : (s.valve.get l).escalated = true) :
    retryDue s l = true := by
  rw [retryDue, timerDue_of_due h, he, hp]
  rfl

end

/-! ### Failures of a valve -/

/-- An open failure ends the window, and suspends a line in FLOWING or SLOWDOWN alone (R96, R106, R107). -/
theorem failOpen_eq (l : LineId) (s : State) :
    failOpen l s =
      if s.lineState l = .flowing ∨ s.lineState l = .slowdown
      then enterSuspended l [.valveFault] (s.modValve l fun v => { v with confirmTimer := none })
      else s.modValve l fun v => { v with confirmTimer := none } :=
  if_congr (LineState.flows_iff _) rfl rfl

/-- The end of a window that CLOSE has left unconfirmed (R106). -/
theorem windowEnds_of_close {l : LineId} {s : State} (hc : (s.valve.get l).commanded = .close) :
    windowEnds l s =
      if (s.valve.get l).sendCount < 3 then resendStage l ((s.valve.get l).sendCount + 1) s else escalate l s :=
  if_pos hc

/-- The end of a window that an open stage has left unconfirmed (R106). -/
theorem windowEnds_of_open {l : LineId} {s : State} (hc : (s.valve.get l).commanded ≠ .close) :
    windowEnds l s = if (s.valve.get l).sendCount < 2 then resendStage l 2 s else failOpen l s :=
  if_neg hc

/-- Settles O21: a resting expiry leaves the state of its instant, a due one goes by the stage and the sends
made, and escalation is as it is defined. -/
theorem valveTimersResendAndEscalate : Obligations.ValveTimersResendAndEscalate := by
  unfold Obligations.ValveTimersResendAndEscalate
  refine ⟨fun l t s hon => ⟨fun h => ?_, fun h => ?_⟩, fun l t s hrun => ?_⟩
  · exact next_timedEvent hon (if_neg (Bool.not_eq_true _ ▸ confirmDue_of_rests h))
  · exact next_timedEvent hon (if_neg (Bool.not_eq_true _ ▸ retryDue_of_rests h))
  · obtain ⟨hon, hp⟩ := hrun
    intro a v resent window
    refine ⟨fun hdue hc he => ?window, fun hdue he => ?retry, ?escalation⟩
    case window =>
      have hends : ∀ {q}, windowEnds l a = q → window = .next (settle s q) := fun hq =>
        next_timedEvent hon ((if_pos (confirmDue_of_due (s := a) hp hdue hc he)).trans hq)
      refine ⟨fun hclose hn => hends ?_, fun hclose hn => hends ?_, fun hopen hn => hends ?_,
        fun hopen hn hflow => hends ?_, fun hopen hn hnf hns => hends ?_⟩
      · exact (windowEnds_of_close (s := a) hclose).trans (if_pos hn)
      · exact (windowEnds_of_close (s := a) hclose).trans (if_neg hn)
      · exact (windowEnds_of_open (s := a) hopen).trans (if_pos hn)
      · exact ((windowEnds_of_open (s := a) hopen).trans (if_neg hn)).trans ((failOpen_eq l a).trans (if_pos hflow))
      · exact ((windowEnds_of_open (s := a) hopen).trans (if_neg hn)).trans
          ((failOpen_eq l a).trans (if_neg fun hflow => hflow.elim hnf hns))
    case retry => exact next_timedEvent hon (if_pos (retryDue_of_due (s := a) hp hdue he))
    case escalation => rfl

/-! ### Status frames -/

theorem Position.ofCode_code (p : Position) : Position.ofCode p.code = some p := by cases p <;> rfl

theorem Position.ofCode_of_unknown {n : Nat} (h : 3 < n) : Position.ofCode n = none := by
  unfold Position.ofCode
  split <;> first | rfl | omega

/-- The position that a valve reports, noted in its record (R104). -/
def noteReported (l : LineId) (p : Position) (s : State) : State := s.modValve l fun v => { v with reported := some p }

theorem noteReported_valve (l : LineId) (p : Position) (s : State) :
    (noteReported l p s).valve.get l = { s.valve.get l with reported := some p } := PerLine.get_set_same ..

/-- The stage that a resend places is the one commanded before the position was noted (R108). -/
theorem resendStage_noteReported (l : LineId) (p : Position) (n : Nat) (s : State) :
    resendStage l n (noteReported l p s) = (noteReported l p s).modValve l fun v =>
      { v with sendCount := n, confirmed := false, confirmTimer := some (s.awake + 500000),
               slot := some (s.valve.get l).commanded } := by
  simp only [resendStage, State.modValve, noteReported_valve]
  rfl

/-- No stage is confirmed by FAULT. -/
theorem fault_ne_confirmingPosition (st : Stage) : Position.fault ≠ confirmingPosition st := by
  cases st <;> decide

/-- A valve status: a confirming position confirms a stage once; another one contradicts a confirmed stage; and FAULT
escalates a CLOSE and fails an open stage (R104, R105, R107, R108, R110, R111). -/
theorem takeValveStatus_eq (l : LineId) (p : Position) (s : State) :
    takeValveStatus l p s =
      let v := s.valve.get l
      let noted := noteReported l p s
      if p = confirmingPosition v.commanded then (if v.confirmed then noted else confirmStage l noted)
      else if v.commanded = .close then
        (if v.confirmed = true ∨ p = .fault ∧ v.escalated = false then escalate l noted else noted)
      else if p = .fault then failOpen l noted
      else if v.confirmed then resendStage l 2 noted
      else noted := by
  unfold takeValveStatus
  dsimp only
  rw [← noteReported, noteReported_valve]
  by_cases hp : p = confirmingPosition (s.valve.get l).commanded
  · subst hp
    cases (s.valve.get l).commanded <;> simp [confirmingPosition]
  · by_cases hc : (s.valve.get l).commanded = .close
    · have hnc : p ≠ .closed := fun h => hp (by rw [h, hc]; rfl)
      cases (s.valve.get l).confirmed <;> simp [hc, hnc, confirmingPosition]
    · simp only [if_neg hp, if_neg hc]

theorem takeValveFrame_power (l : LineId) (data : List Byte) (s : State) :
    (takeValveFrame l data s).power = s.power := by
  unfold takeValveFrame
  split
  · rfl
  · split
    · rfl
    · exact takeValveStatus_power ..

/-- A status frame at its valve (R163). -/
theorem exec_fieldFrame_of_valve {s : State} {f : Frame} {l : LineId} (hrun : Running s)
    (hoff : s.forward.fieldOff = false) (hwake : s.power.wakeDelay = none) (hblock : inBlock s f = false)
    (howner : fieldOwner s.cal f = some (.valve l)) :
    exec (.fieldFrameArrival f) s = .next (settle s (if s.power.holdup then takeValveFrame l f.data s
      else forwardFrame .fieldToCab f (takeValveFrame l f.data s))) := by
  have hconsume : consume f s = takeValveFrame l f.data s := by simp only [consume, howner]
  refine congrArg Host.Outcome.next ?_
  rw [event_of_on hrun.supplied, takeFieldFrame_of_heard hrun hoff hwake hblock, hconsume, takeValveFrame_power]

/-- Settles O25: the first byte names the position, which acts by the commanded stage and what it confirms. -/
theorem valveStatusActs : Obligations.ValveStatusActs := by
  unfold Obligations.ValveStatusActs
  intro l f s hrun hoff hwake hblock howner onward gives v
  have hgives : ∀ {q}, takeValveFrame l f.data s = q → gives q := fun hq => by
    rw [← hq]
    exact exec_fieldFrame_of_valve hrun hoff hwake hblock howner
  refine ⟨fun hdata => hgives (by rw [hdata]; rfl), fun b rest hdata => ⟨fun hb => hgives ?_, fun p hcode => ?_⟩⟩
  · rw [hdata]
    simp only [takeValveFrame, Position.ofCode_of_unknown hb]
  intro w confirm confirms
  have hstatus : ∀ {q}, takeValveStatus l p s = q → gives q := fun hq => hgives <| by
    rw [hdata, ← hq]
    simp only [takeValveFrame, ← hcode, Position.ofCode_code]
  simp only [takeValveStatus_eq, resendStage_noteReported] at hstatus
  have hconfirms : confirms ↔ p = confirmingPosition v.commanded := by
    dsimp only [confirms]
    cases v.commanded <;> rfl
  have hfault : p = .fault → ¬p = confirmingPosition v.commanded := fun h => h ▸ fault_ne_confirmingPosition _
  have hkept : v.confirmed = false → ¬(p = .fault ∧ v.escalated = false) →
      ¬(v.confirmed = true ∨ p = .fault ∧ v.escalated = false) := fun hu hf => not_or_intro (Bool.eq_false_iff.mp hu) hf
  refine ⟨fun hu hp => hstatus ?_, fun hc hp => hstatus ?_, fun hclose hc hp => hstatus ?_,
    fun hclose hu hp he => hstatus ?_, fun hclose hu hp he => hstatus ?_, fun hclose hu hp => hstatus ?_,
    fun hopen hp hflow => hstatus ?_, fun hopen hc hp ho => hstatus ?_, fun hopen hu hp ho => hstatus ?_⟩
  · rw [if_pos (hconfirms.mp hp), if_neg (Bool.eq_false_iff.mp hu)]
    rfl
  · rw [if_pos (hconfirms.mp hp), if_pos hc]
    rfl
  · rw [if_neg (mt hconfirms.mpr hp), if_pos hclose, if_pos (.inl hc)]
    rfl
  · rw [if_neg (hfault hp), if_pos hclose, if_pos (.inr ⟨hp, he⟩)]
    rfl
  · rw [if_neg (hfault hp), if_pos hclose, if_neg (hkept hu fun hf => absurd (he.symm.trans hf.2) nofun)]
    rfl
  · have hopened : p ≠ .closed ∧ p ≠ .fault := by rcases hp with rfl | rfl <;> decide
    rw [if_neg (by rw [hclose]; exact hopened.1), if_pos hclose, if_neg (hkept hu fun hf => hopened.2 hf.1)]
    rfl
  · rw [if_neg (hfault hp), if_neg hopen, if_pos hp, failOpen_eq]
    exact if_pos hflow
  · rw [if_neg (mt hconfirms.mpr ho), if_neg hopen, if_neg hp, if_pos hc]
    rfl
  · rw [if_neg (mt hconfirms.mpr ho), if_neg hopen, if_neg hp, if_neg (Bool.eq_false_iff.mp hu)]
    rfl

end Sys2Proof.Machine

namespace Sys2Proof.Machine

/-! ## An assertion of POWER_FAIL (R112, R176, R194) -/

/-- An assertion of POWER_FAIL at the powered part; the level of the input is no condition. -/
theorem exec_powerFail_of_on {s : State} (h : s.power.on = true) :
    exec .powerFail s = .next (settle s (takePowerFail (setFailPin true s))) :=
  congrArg Host.Outcome.next ((event_of_on (s := setFailPin true s) h).trans (settle_congr rfl))

theorem takePowerFail_of_holdup {s : State} (h : s.power.holdup = true) : takePowerFail s = s := if_pos h

theorem takePowerFail_of_running {s : State} (hh : s.power.holdup = false) (hp : s.power.parked = false) :
    takePowerFail s = enterHoldup s := by
  simp [takePowerFail, endPark, hh, hp]

theorem takePowerFail_of_parked {s : State} (hh : s.power.holdup = false) (hp : s.power.parked = true) :
    takePowerFail s = enterHoldup (wakeActions s) := by
  simp [takePowerFail, endPark, hh, hp]

/-- Settles O51: without supply the pin alone moves; a powered part enters holdup once, a parked one after its wake. -/
theorem powerFailEntersHoldup : Obligations.PowerFailEntersHoldup := by
  unfold Obligations.PowerFailEntersHoldup
  intro s acts asserted held closed restarted woken result
  have hacts : ∀ m q, stopOn m .powerLoss q = acts m q := fun m q => stopOn_eq m .powerLoss q
  have hholdup : ∀ q, enterHoldup q = held (closed q) := fun q => by
    simp only [closed, ← hacts]
    rfl
  have hon : s.power.on = true → ∀ {q}, takePowerFail asserted = q → result = .next (settle s q) := fun h _ hq =>
    hq ▸ exec_powerFail_of_on h
  refine ⟨fun hoff => ?_, fun h hh => hon h (takePowerFail_of_holdup hh), fun h hh => ⟨fun hp => hon h ?_,
    fun hp => hon h ?_⟩⟩
  · exact congrArg Host.Outcome.next (event_of_off (s := asserted) hoff)
  · rw [takePowerFail_of_running (s := asserted) hh hp, hholdup]
  · exact (takePowerFail_of_parked (s := asserted) hh hp).trans (hholdup woken)

end Sys2Proof.Machine

namespace Sys2Proof.Machine

/-! ## What a command does to the journal (R117 to R136, R142, R153) -/

/-! ### What leaves the journal alone -/

/-- What a line holds by its state: the clause of `ContextLaw` for one line (R68, R69, R89 to R92, R186). -/
def Line.lawful (ln : Line) : Prop :=
  (ln.kept.ctx = none ↔ ln.kept.state = .idle) ∧ (ln.resume = none ↔ ln.kept.state ≠ .airHold) ∧
    (ln.noFlow ≠ none → ln.kept.state.flows = true) ∧ (ln.airHold ≠ none → ln.kept.state = .airHold) ∧
    (ln.report = none ↔ ln.kept.state = .idle)

theorem contextLaw_iff (s : State) : ContextLaw s ↔ StoreAgrees s ∧ ∀ l, (s.line.get l).lawful := Iff.rfl

/-- A line moves from `a` to `b` while its place in the journal stays: it neither enters nor leaves IDLE and CLOSING. -/
structure Line.Moves (a b : Line) : Prop where
  idle : b.kept.state = .idle ↔ a.kept.state = .idle
  closing : b.kept.state = .closing ↔ a.kept.state = .closing
  lawful : a.lawful → b.lawful

theorem Line.Moves.refl (a : Line) : a.Moves a := ⟨Iff.rfl, Iff.rfl, id⟩

theorem Line.Moves.trans {a b c : Line} (h : a.Moves b) (h' : b.Moves c) : a.Moves c :=
  ⟨h'.idle.trans h.idle, h'.closing.trans h.closing, h'.lawful ∘ h.lawful⟩

/-- A change that leaves the state, whether there is a delivery, and the timers of the state. -/
theorem Line.Moves.of_kept {a b : Line} (hst : b.kept.state = a.kept.state)
    (hctx : b.kept.ctx = none ↔ a.kept.ctx = none) (hresume : b.resume = a.resume) (hflow : b.noFlow = a.noFlow)
    (hair : b.airHold = a.airHold) (hreport : b.report = a.report) : a.Moves b := by
  refine ⟨by rw [hst], by rw [hst], fun h => ?_⟩
  rw [Line.lawful, hst, hctx, hresume, hflow, hair, hreport]
  exact h

/-- A line between ARM and END. -/
def LineState.delivers (st : LineState) : Prop := st ≠ .idle ∧ st ≠ .closing

theorem LineState.delivers_of_flows {st : LineState} (h : st.flows = true) : st.delivers := by
  rcases (LineState.flows_iff st).mp h with rfl | rfl <;> exact ⟨nofun, nofun⟩

/-- A delivering line enters another delivering state; AIR_HOLD needs its resume state. -/
theorem Line.moves_entered {a b : Line} {st : LineState} (ha : a.kept.state.delivers) (hst : st.delivers)
    (hair : st = .airHold → b.resume ≠ none) (hstate : b.kept.state = a.kept.state)
    (hctx : b.kept.ctx = none ↔ a.kept.ctx = none) (hreport : b.report = a.report) (report : Micros) :
    a.Moves (b.entered st report) := by
  obtain ⟨hidle, hclosing⟩ := hst
  refine ⟨iff_of_false hidle ha.1, iff_of_false hclosing ha.2, fun h => ?_⟩
  obtain ⟨hactx, -, -, -, hareport⟩ := h
  refine ⟨iff_of_false (fun e => ha.1 (hactx.mp (hctx.mp e))) hidle, ?_, ?_, ?_, ?_⟩
  · by_cases hs : st = .airHold
    · simp [entered, hs, hair hs]
    · simp [entered, hs]
  · by_cases hs : st.flows = true
    · exact fun _ => hs
    · simp [entered, hs]
  · by_cases hs : st = .airHold
    · exact fun _ => hs
    · simp [entered, hs]
  · simp only [entered, hidle, if_false, hstate, ha.1, hreport]
    exact iff_of_false (mt hareport.mp ha.1) id

theorem State.modLine_lineState (s : State) (l : LineId) (f : Line → Line) :
    (s.modLine l f).lineState l = (f (s.line.get l)).kept.state := by
  rw [State.lineState, State.modLine_line, PerLine.get_set_same]

/-- `t` is `s` in all that the journal's laws speak of, but that each line may move. -/
structure Quiet (s t : State) : Prop where
  journal : t.journal = s.journal
  cal : t.cal = s.cal
  attempts : t.lock.attempts = s.lock.attempts
  inFlight : t.port.inFlight = s.port.inFlight
  supply : t.power.on = s.power.on
  moves : ∀ l, (s.line.get l).Moves (t.line.get l)

theorem Quiet.refl (s : State) : Quiet s s := ⟨rfl, rfl, rfl, rfl, rfl, fun _ => .refl _⟩

theorem Quiet.trans {s t u : State} (h : Quiet s t) (h' : Quiet t u) : Quiet s u where
  journal := h'.journal.trans h.journal
  cal := h'.cal.trans h.cal
  attempts := h'.attempts.trans h.attempts
  inFlight := h'.inFlight.trans h.inFlight
  supply := h'.supply.trans h.supply
  moves l := (h.moves l).trans (h'.moves l)

theorem ite_quiet {c : Prop} [Decidable c] {s a b : State} (ha : Quiet s a) (hb : Quiet s b) :
    Quiet s (if c then a else b) := by
  split
  · exact ha
  · exact hb

section
variable {s t : State} (h : Quiet s t) (l : LineId)
include h

theorem modLine_quiet_of_moves {f : Line → Line} (hf : (t.line.get l).Moves (f (t.line.get l))) :
    Quiet s (t.modLine l f) := by
  refine { h with moves := fun m => (h.moves m).trans ?_ }
  rw [State.modLine_line, PerLine.get_set]
  split
  · next hm => exact hm ▸ hf
  · exact .refl _

/-- A change of a line's other items. -/
theorem modLine_quiet {f : Line → Line}
    (hf : ∀ ln : Line, ln.Moves (f ln) := by exact fun _ => .of_kept rfl Iff.rfl rfl rfl rfl rfl) :
    Quiet s (t.modLine l f) := modLine_quiet_of_moves h l (hf _)

theorem modCtx_quiet (f : Delivery → Delivery) : Quiet s (t.modCtx l f) :=
  modLine_quiet h l (f := fun ln => { ln with kept := { ln.kept with ctx := ln.kept.ctx.map f } })
    fun _ => .of_kept rfl Option.map_eq_none_iff rfl rfl rfl rfl

theorem modPulse_quiet (f : PulseInput → PulseInput) : Quiet s (t.modPulse l f) := { h with }

theorem modValve_quiet (f : ValveRecord → ValveRecord) : Quiet s (t.modValve l f) := { h with }

omit l in
theorem modCounters_quiet (d : Direction) (f : Counters → Counters) : Quiet s (t.modCounters d f) := by
  cases d <;> exact { h with }

/-! ### Changes of line state -/

/-- A line enters a state; what it moves to counts. -/
theorem enterState_quiet_of_moves {st : LineState}
    (hm : (t.line.get l).Moves ((t.line.get l).entered st (t.awake + t.settings.reportInterval * 1000))) :
    Quiet s (enterState l st t) := by
  rw [enterState_eq]
  exact { modLine_quiet_of_moves h l (f := Line.entered st (t.awake + t.settings.reportInterval * 1000)) hm with }

/-- A delivering line enters a delivering state but AIR_HOLD. -/
theorem enterState_quiet {st : LineState} (hfrom : (t.lineState l).delivers) (hto : st.delivers)
    (hair : st ≠ .airHold := by exact nofun) : Quiet s (enterState l st t) :=
  enterState_quiet_of_moves h l (Line.moves_entered hfrom hto (fun e => absurd e hair) rfl Iff.rfl rfl _)

theorem enterStopping_quiet (hst : (t.lineState l).delivers) (causes : List StopCause) :
    Quiet s (enterStopping l causes t) := by
  refine enterState_quiet (modLine_quiet (modCtx_quiet h l _) l) l ?_ ⟨nofun, nofun⟩
  rw [State.modLine_lineState]
  exact (congrArg LineState.delivers (modCtx_lineState t l _)).mpr hst

theorem enterSuspended_quiet (hst : (t.lineState l).delivers) (causes : List StopCause) :
    Quiet s (enterSuspended l causes t) :=
  enterState_quiet (modCtx_quiet h l _) l ((congrArg LineState.delivers (modCtx_lineState t l _)).mpr hst) ⟨nofun, nofun⟩

theorem stopOn_quiet (c : StopCause) : Quiet s (stopOn l c t) := by
  rw [stopOn_eq]
  split
  · next hst =>
    refine enterStopping_quiet h l ?_ _
    rcases hst with hst | hst | hst <;> exact hst ▸ ⟨nofun, nofun⟩
  · exact ite_quiet (modCtx_quiet h l _) h

/-- A line enters AIR_HOLD with its resume state (R90). -/
theorem enterAirHold_quiet (hst : (t.lineState l).delivers) (back : ResumeState) : Quiet s (enterAirHold l back t) := by
  have hctx := modCtx_quiet h l fun d => { d with flags := { d.flags with airSeen := true } }
  have hstate := modCtx_lineState t l fun d => { d with flags := { d.flags with airSeen := true } }
  unfold enterAirHold
  generalize t.modCtx l _ = q at hctx hstate
  dsimp only
  have hair : LineState.airHold.delivers := ⟨nofun, nofun⟩
  have hm := Line.moves_entered (a := q.line.get l) ((congrArg LineState.delivers hstate).mpr hst) hair
    (b := { q.line.get l with resume := some back, airHold := some (q.awake + q.settings.airHold * 1000000) })
    (fun _ => Option.some_ne_none back) rfl Iff.rfl rfl (q.awake + q.settings.reportInterval * 1000)
  have hq := modLine_quiet_of_moves hctx l (f := fun ln => Line.entered .airHold
    (q.awake + q.settings.reportInterval * 1000)
    { ln with resume := some back, airHold := some (q.awake + q.settings.airHold * 1000000) }) hm
  rw [← State.modLine_modLine] at hq
  rw [enterState_eq]
  exact { hq with }

omit h in
theorem targetState_delivers (g : StopTarget) : (targetState g).delivers ∧ targetState g ≠ .airHold := by
  cases g <;> exact ⟨⟨nofun, nofun⟩, nofun⟩

theorem completeStopping_quiet : Quiet s (completeStopping l t) := by
  have ha : Quiet s (adaptCloseAhead l t) := by
    unfold adaptCloseAhead
    (repeat' split) <;> exact { h with }
  have hline : (adaptCloseAhead l t).lineState l = t.lineState l := by
    unfold adaptCloseAhead
    (repeat' split) <;> rfl
  unfold completeStopping
  split
  · next hst =>
    split
    · exact h
    · next d _ =>
      obtain ⟨hto, hair⟩ := targetState_delivers (d.stopTarget.getD .paused)
      refine enterState_quiet (modLine_quiet ha l) l ?_ hto hair
      rw [State.modLine_lineState]
      refine (congrArg LineState.delivers (hline.trans hst.1)).mpr ⟨nofun, nofun⟩
  · exact h

theorem closeBothValves_quiet (r : PumpReason) : Quiet s (closeBothValves r t) := { h with }

/-! ### Events of the time base -/

theorem thresholdTest_quiet (d : Delivery) : Quiet s (thresholdTest l d t) := by
  unfold thresholdTest
  split
  · next hst =>
    have hfull : Quiet s (raiseLineStatus l (issueStage l .openFull t)) := { h with }
    exact ite_quiet (enterState_quiet h l (hst ▸ ⟨nofun, nofun⟩) ⟨nofun, nofun⟩) (ite_quiet hfull h)
  · exact h

/-- The no-flow timer of a flowing line may start (R89). -/
theorem noFlowTest_quiet (hst : (t.lineState l).flows = true) : Quiet s (noFlowTest l t) := by
  have hm : ∀ timer : Timer, (t.line.get l).Moves { t.line.get l with noFlow := timer } := fun timer => by
    refine ⟨Iff.rfl, Iff.rfl, fun hl => ?_⟩
    obtain ⟨hctx, hresume, -, hair, hreport⟩ := hl
    exact ⟨hctx, hresume, fun _ => hst, hair, hreport⟩
  exact ite_quiet (ite_quiet (modLine_quiet_of_moves h l (hm _)) h) (modLine_quiet_of_moves h l (hm _))

theorem faultTest_quiet (faults : List StopCause) : Quiet s (faultTest l faults t) := by
  unfold faultTest
  refine ite_quiet h ?_
  split
  · next hst => exact enterStopping_quiet h l (hst ▸ ⟨nofun, nofun⟩) _
  · exact modCtx_quiet h l _
  iterate 3
    next hst => exact enterSuspended_quiet h l (hst ▸ ⟨nofun, nofun⟩) _
  · exact modCtx_quiet h l _
  · exact h

theorem evaluate_quiet : Quiet s (evaluate l t) := by
  unfold evaluate
  split
  · exact h
  · next d _ =>
    refine completeStopping_quiet ?_ l
    split
    · next hst =>
      exact ite_quiet (noFlowTest_quiet (thresholdTest_quiet h l d) l (thresholdTest_flows hst d))
        (enterStopping_quiet h l (LineState.delivers_of_flows hst) _)
    · exact faultTest_quiet h l _

theorem tick_quiet : Quiet s (tick l t) := by
  have hkept : ∀ ln : Line, ln.Moves { ln with kept := keptLeft l t ln.kept } := fun ln =>
    .of_kept rfl (by simp only [keptLeft]; split; · exact Iff.rfl
                     · split <;> exact Option.map_eq_none_iff) rfl rfl rfl rfl
  have hleft : Quiet s (tickLeft l t) := { modLine_quiet (modPulse_quiet h l takeCounts) l hkept with }
  rw [tick_eq]
  exact evaluate_quiet hleft l

omit l in
theorem wakeActions_quiet : Quiet s (wakeActions t) :=
  { h with moves := fun
      | .line1 => (h.moves .line1).trans (.of_kept rfl Iff.rfl rfl rfl rfl rfl)
      | .line2 => (h.moves .line2).trans (.of_kept rfl Iff.rfl rfl rfl rfl rfl) }

omit l in
theorem wakeEvent_quiet : Quiet s (wakeEvent t) := { wakeActions_quiet h with }

theorem takeEdge_quiet (e : PulserEdge) : Quiet s (takeEdge l e t) := by
  unfold takeEdge
  dsimp only
  split
  · exact { h with }
  · exact { h with }
  · exact ite_quiet (wakeEvent_quiet (modPulse_quiet (modPulse_quiet h l _) l _)) { h with }

theorem takeOverflow_quiet : Quiet s (takeOverflow l t) := ite_quiet h { h with }

theorem takeTick_quiet : Quiet s (takeTick l t) := ite_quiet (tick_quiet (modLine_quiet h l) l) h

theorem takeNoFlowExpiry_quiet : Quiet s (takeNoFlowExpiry l t) := by
  unfold takeNoFlowExpiry
  split
  · next hdue =>
    simp only [noFlowDue, Bool.and_eq_true] at hdue
    exact enterStopping_quiet h l (LineState.delivers_of_flows hdue.1.2) _
  · exact h

/-- The report timer of a line outside IDLE starts again (R186). -/
theorem takeReportExpiry_quiet : Quiet s (takeReportExpiry l t) := by
  unfold takeReportExpiry
  split
  · next hdue =>
    have hm : (t.line.get l).Moves
        { t.line.get l with report := some (t.awake + t.settings.reportInterval * 1000) } := by
      refine ⟨Iff.rfl, Iff.rfl, fun hl => ?_⟩
      obtain ⟨hctx, hresume, hflow, hair, hreport⟩ := hl
      refine ⟨hctx, hresume, hflow, hair, iff_of_false nofun fun hidle => ?_⟩
      simp [reportDue, timerDue, hreport.mpr hidle] at hdue
    exact { modLine_quiet_of_moves h l (f := fun ln =>
      { ln with report := some (t.awake + t.settings.reportInterval * 1000) }) hm with }
  · exact h

theorem leaveAirHold_quiet : Quiet s (leaveAirHold l t) := by
  unfold leaveAirHold
  split
  · next r hst _ =>
    have hto : r.toLineState.delivers ∧ r.toLineState ≠ .airHold := by
      cases r <;> exact ⟨⟨nofun, nofun⟩, nofun⟩
    exact enterState_quiet h l (hst ▸ ⟨nofun, nofun⟩) hto.1 hto.2
  · exact h

theorem takeAirClearExpiry_quiet : Quiet s (takeAirClearExpiry l t) :=
  ite_quiet (leaveAirHold_quiet (modLine_quiet h l) l) h

theorem takeAirHoldExpiry_quiet : Quiet s (takeAirHoldExpiry l t) := by
  unfold takeAirHoldExpiry
  split
  · next hdue =>
    simp only [airHoldDue, Bool.and_eq_true, decide_eq_true_eq] at hdue
    exact enterStopping_quiet h l (hdue.1.2 ▸ ⟨nofun, nofun⟩) _
  · exact h

theorem takeAirSilenceExpiry_quiet : Quiet s (takeAirSilenceExpiry l t) :=
  ite_quiet (ite_quiet (modLine_quiet h l) (modLine_quiet h l)) h

/-! ### Valve driver -/

theorem reportCloseFailure_quiet : Quiet s (reportCloseFailure l t) := by
  unfold reportCloseFailure
  split
  iterate 3 exact h
  · exact modCtx_quiet h l _
  · next hidle _ hclosing _ => exact enterSuspended_quiet h l ⟨hidle, hclosing⟩ _

theorem escalate_quiet : Quiet s (escalate l t) :=
  reportCloseFailure_quiet (t := (placePumpStop .valveFault (some l) t).modValve l _) { h with } l

theorem failOpen_quiet : Quiet s (failOpen l t) := by
  unfold failOpen reportOpenFailure
  split
  · next hst => exact enterSuspended_quiet (modValve_quiet h l _) l (LineState.delivers_of_flows hst) _
  · exact { h with }

theorem takeValveStatus_quiet (p : Position) : Quiet s (takeValveStatus l p t) := by
  have hv : Quiet s (t.modValve l fun v => { v with reported := some p }) := { h with }
  have he := escalate_quiet hv l
  have hc : Quiet s (confirmStage l (t.modValve l fun v => { v with reported := some p })) :=
    completeStopping_quiet (modValve_quiet hv l _) l
  have hr : Quiet s (resendStage l 2 (t.modValve l fun v => { v with reported := some p })) := { h with }
  unfold takeValveStatus
  exact ite_quiet (ite_quiet (ite_quiet hv he) (ite_quiet hc (ite_quiet he hv)))
    (ite_quiet (failOpen_quiet hv l) (ite_quiet (ite_quiet hv hr) (ite_quiet hc hv)))

theorem takeValveFrame_quiet (data : List Byte) : Quiet s (takeValveFrame l data t) := by
  unfold takeValveFrame
  split
  · exact h
  · split
    · exact h
    · exact takeValveStatus_quiet h l _

theorem takeConfirmExpiry_quiet : Quiet s (takeConfirmExpiry l t) := by
  have hr : ∀ n, Quiet s (resendStage l n t) := fun _ => { h with }
  have hw : Quiet s (windowEnds l t) := by
    unfold windowEnds
    exact ite_quiet (ite_quiet (hr _) (escalate_quiet h l)) (ite_quiet (hr _) (failOpen_quiet h l))
  exact ite_quiet hw h

theorem takeRetryExpiry_quiet : Quiet s (takeRetryExpiry l t) := ite_quiet { h with } h

/-! ### Field frames -/

theorem takeProbeFrame_quiet (data : List Byte) : Quiet s (takeProbeFrame l data t) := by
  unfold takeProbeFrame
  split <;> exact modLine_quiet h l

theorem takeAirPresent_quiet : Quiet s (takeAirPresent l t) := by
  have hm := modLine_quiet (modLine_quiet h l (f := fun ln =>
    { ln with airSilence := some (t.awake + airSilenceTime), airSilent := false })) l
    (f := fun ln => { ln with airFlag := true, airClear := none })
  have hq := fun (c : Prop) [Decidable c] => ite_quiet (c := c)
    (modCtx_quiet hm l fun d => { d with flags := { d.flags with airSeen := true } }) hm
  unfold takeAirPresent hearAir
  dsimp only
  split
  · next hst => exact enterAirHold_quiet (hq _) l (hst ▸ ⟨nofun, nofun⟩) _
  · next hst => exact enterAirHold_quiet (hq _) l (hst ▸ ⟨nofun, nofun⟩) _
  · exact modLine_quiet (hq _) l
  · exact hq _

theorem takeAirFrame_quiet (data : List Byte) : Quiet s (takeAirFrame l data t) := by
  have hh : Quiet s (hearAir l t) := modLine_quiet h l
  have hc : Quiet s (takeAirClear l t) := by
    unfold takeAirClear
    exact modLine_quiet hh l
  unfold takeAirFrame
  split
  · exact h
  · exact ite_quiet (takeAirPresent_quiet h l) (ite_quiet hc h)

omit l

theorem consume_quiet (f : Frame) : Quiet s (consume f t) := by
  unfold consume
  split
  · exact h
  · exact takeProbeFrame_quiet h _ _
  · exact takeAirFrame_quiet h _ _
  · exact takeValveFrame_quiet h _ _

/-! ### Forwarding and the transmit ports -/

theorem forwardFrame_quiet (d : Direction) (f : Frame) : Quiet s (forwardFrame d f t) := by
  unfold forwardFrame joinFifo
  split
  · refine ite_quiet (modCounters_quiet h d _) ?_
    split <;> exact { h with }
  · exact modCounters_quiet h d _
  · exact modCounters_quiet h d _

theorem takeFieldFrame_quiet (f : Frame) : Quiet s (takeFieldFrame f t) :=
  have hc := consume_quiet h f
  ite_quiet h <| ite_quiet (ite_quiet h (modCounters_quiet h _ _)) (ite_quiet hc (forwardFrame_quiet hc _ _))

theorem takeFieldPort_quiet : Quiet s (takeFieldPort t) := by
  unfold takeFieldPort sendForwarded
  dsimp only [State.modCounters]
  (repeat' split) <;> exact { h with }

theorem takeCabPort_quiet : Quiet s (takeCabPort t) := by
  unfold takeCabPort sendToCab
  (repeat' split) <;> exact { h with }

theorem enterBusOff_quiet (k : Link) : Quiet s (enterBusOff k t) := by
  cases k <;> exact { h with }

theorem recoverBusOff_quiet (k : Link) : Quiet s (recoverBusOff k t) := by
  cases k
  · exact { h with }
  · exact ite_quiet { h with } { h with }

theorem countForwarded_quiet (d : Direction) (x : Transmission) : Quiet s (countForwarded d x t) :=
  ite_quiet (modCounters_quiet h d _) h

theorem enterHoldup_quiet : Quiet s (enterHoldup t) :=
  { closeBothValves_quiet (stopOn_quiet (stopOn_quiet h .line1 .powerLoss) .line2 .powerLoss) .powerLoss with }

theorem takePowerFail_quiet : Quiet s (takePowerFail t) :=
  ite_quiet h (enterHoldup_quiet (ite_quiet (wakeActions_quiet h) h))

theorem settle_quiet (before : State) : Quiet s (settle before t) := by
  unfold settle
  exact ite_quiet { h with } { h with }

end

/-- An event whose act is quiet. -/
theorem event_quiet {s : State} {f : State → State} (hf : Quiet s (f s)) : Quiet s (event f s) :=
  ite_quiet (settle_quiet hf s) (.refl s)

theorem timedEvent_quiet {s : State} (t : Micros) {f : State → State} (hf : ∀ q, Quiet s q → Quiet s (f q)) :
    Quiet s (timedEvent t f s) :=
  event_quiet (hf (advanceTo t s) { Quiet.refl s with })

/-- The idle step lets time pass or queues an event. -/
theorem idle_quiet (s : State) : Quiet s (idle s) := by
  unfold idle
  (repeat' split) <;> exact { Quiet.refl s with }

end Sys2Proof.Machine

namespace Sys2Proof.Machine

/-! ### What each command does -/

/-- Where power-on or RESTART is performed: at a return of the supply, at a release of POWER_FAIL in holdup with no write
in progress, at the completion of the write that a release waits for, and at the departure of the answer that performs a
standing RESTART (R195, R196, R200). -/
def PowerOnCause (i : Instr) (s : State) : Prop :=
  i = .powerOn ∨
    (i = .powerFailRelease ∧ s.power.on = true ∧ s.power.holdup = true ∧ s.journal.queue = []) ∨
    (i = .writeCompletion ∧ s.power.on = true ∧ s.power.releaseWaiting = true ∧ s.journal.queue ≠ []) ∨
    (i = .transmissionCompletion .cab ∧ s.power.on = true ∧ s.forward.cabOff = false ∧
      s.port.pendingReset = some .restart ∧ ∃ x, s.forward.txCab = some x ∧ x.performs = some .restart)

/-- The part after the completion of the write at the head of the queue, before a power-on that waits for it (R127). -/
def completed (w : JournalWrite) (rest : List JournalWrite) (s : State) : State :=
  reportCompletion w { s with journal := completeWrite w rest s.journal }

/-- What a command can do to the journal and to what its laws speak of: one act of the journal, or a power-on, beside
changes that leave all of that alone. -/
inductive JournalStep (i : Instr) (s : State) : State → Prop
  /-- Nothing. -/
  | rests : JournalStep i s s
  /-- An act, and then changes that leave the journal alone. -/
  | followed {m t : State} (hm : JournalStep i s m) (hq : Quiet m t) : JournalStep i s t
  /-- ARM and ARM FLUSH reserve a place (R72, R73, R119). -/
  | opens (l : LineId) (d : Delivery) (orders : List Order) (hidle : s.lineState l = .idle)
      (hroom : canReserve s.journal d.kind.recordKind = true) :
      JournalStep i s (openDelivery l d { s with orders := orders })
  /-- DISARM returns it (R74, R122). -/
  | disarms (l : LineId) (d : Delivery) (harmed : s.lineState l = .armed) : JournalStep i s (undoArm l d s)
  /-- END queues the record (R80, R125). -/
  | ends (l : LineId) (d : Delivery) (hd : s.ctx l = some d) (hholds : (s.lineState l).holds = true) :
      JournalStep i s (endLine l d s).1
  /-- RELEASE THROUGH (R131). -/
  | releases (n : Nat) : JournalStep i s { s with journal := releaseThrough n s.journal }
  /-- A calibration-class command is accepted, and is in flight (R146, R181). -/
  | accepts (item : RecordItem) (old new : CalValue) (f : InFlight) (hon : s.power.on = true)
      (hflight : s.port.inFlight = none) (hroom : canReserve s.journal .calibration = true) :
      JournalStep i s { acceptCalibration item old new s with port := { s.port with inFlight := some f } }
  /-- A wrong credential costs an attempt (R153). -/
  | spends : JournalStep i s { s with lock := { s.lock with attempts := s.lock.attempts - 1 } }
  /-- The write in progress completes (R127). -/
  | completes (w : JournalWrite) (rest : List JournalWrite) (hon : s.power.on = true)
      (hqueue : s.journal.queue = w :: rest) : JournalStep i s (completed w rest s)
  /-- The write in progress completes, and the release that waits for it brings power-on (R195). -/
  | completesAndPowersOn (w : JournalWrite) (rest : List JournalWrite) (hon : s.power.on = true)
      (hqueue : s.journal.queue = w :: rest) (hcause : PowerOnCause i s) :
      JournalStep i s (runPowerOn false { completed w rest s with store := copies (completed w rest s) })
  /-- Power-on, with the line context store as the part left it (R196). -/
  | powersOn (keep : Bool) (q : State) (hq : Quiet s q) (hstore : StoreAgrees s → StoreAgrees q)
      (hcause : PowerOnCause i s) : JournalStep i s (runPowerOn keep q)
  /-- The supply fails, perhaps between the two stores of a calibration write (R149, R195). -/
  | losesSupply (between : Bool) : JournalStep i s (loseSupply between s)
  /-- A failure of the storage medium (R128). -/
  | damages (n : Nat) (left : StoredContents) (hi : i = .storageMediumFailure n left) :
      JournalStep i s (damageJournal n left s)

/-- What an owner does with a command: an act and an answer, or an accepted calibration-class command. -/
inductive OwnerStep (i : Instr) (s : State) (r : State × Answer) : Prop
  | answers (ht : JournalStep i s r.1) (ha : r.2 ≠ .inFlight)
  | accepts (item : RecordItem) (old new : CalValue) (hroom : canReserve s.journal .calibration = true)
      (ha : r.2 = .inFlight) (ht : Quiet (acceptCalibration item old new s) r.1)

section
variable {i : Instr} {s : State}

theorem JournalStep.of_quiet {t : State} (h : Quiet s t) : JournalStep i s t := .followed .rests h

theorem ite_ownerStep {c : Prop} [Decidable c] {a b : State × Answer} (ha : OwnerStep i s a) (hb : OwnerStep i s b) :
    OwnerStep i s (if c then a else b) := by
  split
  · exact ha
  · exact hb

/-- A refusal, or a read. -/
theorem ownerStep_same {st : Status} {data : List Byte} : OwnerStep i s (s, .reply st data) := .answers .rests nofun

/-- An answer beside a change that leaves the journal alone. -/
theorem ownerStep_of_quiet {t : State} {st : Status} {data : List Byte} (h : Quiet s t) :
    OwnerStep i s (t, .reply st data) := .answers (.of_quiet h) nofun

theorem onLine_ownerStep (n : Nat) {f : LineId → State × Answer} (hf : ∀ l, OwnerStep i s (f l)) :
    OwnerStep i s (onLine n s f) := by
  unfold onLine
  split
  · exact ownerStep_same
  · exact hf _

/-! ### Line commands -/

/-- The last check of ARM and ARM FLUSH is that a place can be reserved (R72, R73, R119). -/
theorem canReserve_of_openRefusal {l : LineId} {c : CompartmentNo} {kind : DeliveryKind}
    (h : openRefusal s l c kind = none) : canReserve s.journal kind.recordKind = true := by
  unfold openRefusal at h
  split at h
  · exact nomatch h
  · split at h
    · exact nomatch h
    · split at h
      · exact nomatch h
      · next hroom => simpa using hroom

theorem armLine_ownerStep (l : LineId) (order c : Nat) : OwnerStep i s (armLine l order c s) := by
  unfold armLine
  split
  · exact ownerStep_same
  · next hidle =>
    refine ite_ownerStep ownerStep_same ?_
    split
    · exact ownerStep_same
    · refine ite_ownerStep ownerStep_same (ite_ownerStep ownerStep_same ?_)
      split
      · exact ownerStep_same
      · refine ite_ownerStep ownerStep_same (ite_ownerStep ownerStep_same ?_)
        split
        · exact ownerStep_same
        · next hroom =>
          exact .answers (.opens _ _ _ (not_not.mp hidle) (canReserve_of_openRefusal hroom)) nofun

theorem armFlushLine_ownerStep (l : LineId) (c : Nat) : OwnerStep i s (armFlushLine l c s) := by
  unfold armFlushLine
  split
  · exact ownerStep_same
  · next hidle =>
    refine ite_ownerStep ownerStep_same ?_
    split
    · exact ownerStep_same
    · split
      · exact ownerStep_same
      · refine ite_ownerStep ownerStep_same ?_
        split
        · exact ownerStep_same
        · next hroom =>
          exact .answers (.opens _ _ s.orders (not_not.mp hidle) (canReserve_of_openRefusal hroom)) nofun

theorem ownerDisarm_ownerStep (n : Nat) : OwnerStep i s (ownerDisarm n s) :=
  onLine_ownerStep n fun l => by
    split
    · next harmed _ => exact .answers (.disarms l _ harmed) nofun
    · exact ownerStep_same

theorem beginFlow_quiet {t : State} (h : Quiet s t) (l : LineId) (hst : (t.lineState l).delivers) (r : ResumeState) :
    Quiet s (beginFlow l r t) := by
  have hto : r.toLineState.delivers ∧ r.toLineState ≠ .airHold := by
    cases r <;> exact ⟨⟨nofun, nofun⟩, nofun⟩
  exact ite_quiet (enterAirHold_quiet h l hst r) (enterState_quiet h l hst hto.1 hto.2)

theorem modCtx_delivers {l : LineId} (hst : (s.lineState l).delivers) (f : Delivery → Delivery) :
    ((s.modCtx l f).lineState l).delivers := (congrArg LineState.delivers (modCtx_lineState s l f)).mpr hst

theorem ownerStart_ownerStep (n : Nat) : OwnerStep i s (ownerStart n s) :=
  onLine_ownerStep n fun l => by
    split
    · next hst _ =>
      unfold startLine
      split
      · exact ownerStep_same
      · exact ownerStep_of_quiet
          (beginFlow_quiet (modCtx_quiet (.refl s) l _) l (modCtx_delivers (hst ▸ ⟨nofun, nofun⟩) _) _)
    · exact ownerStep_same

theorem ownerResume_ownerStep (n : Nat) : OwnerStep i s (ownerResume n s) :=
  onLine_ownerStep n fun l => by
    split
    · next hst =>
      exact ownerStep_of_quiet (enterState_quiet (.refl s) l (hst ▸ ⟨nofun, nofun⟩) ⟨nofun, nofun⟩)
    · next hst _ =>
      unfold resumePaused
      split
      · exact ownerStep_same
      · exact ite_ownerStep ownerStep_same (ownerStep_of_quiet
          (beginFlow_quiet (modCtx_quiet (.refl s) l _) l (modCtx_delivers (hst ▸ ⟨nofun, nofun⟩) _) _))
    · exact ownerStep_same

theorem ownerPause_ownerStep (n : Nat) : OwnerStep i s (ownerPause n s) :=
  onLine_ownerStep n fun l => by
    split
    iterate 4 exact ownerStep_of_quiet (stopOn_quiet (.refl s) l _)
    exact ownerStep_same

theorem ownerStop_ownerStep (n : Nat) : OwnerStep i s (ownerStop n s) :=
  onLine_ownerStep n fun l => by
    split
    iterate 4 exact ownerStep_of_quiet (stopOn_quiet (.refl s) l _)
    · next hst =>
      exact ownerStep_of_quiet (enterState_quiet (modCtx_quiet (.refl s) l _) l
        (modCtx_delivers (hst ▸ ⟨nofun, nofun⟩) _) ⟨nofun, nofun⟩)
    · exact ownerStep_same

theorem ownerEmergencyStop_ownerStep : OwnerStep i s (ownerEmergencyStop s) :=
  ownerStep_of_quiet (closeBothValves_quiet (stopOn_quiet (stopOn_quiet (.refl s) .line1 _) .line2 _) _)

theorem ownerEnd_ownerStep (n : Nat) : OwnerStep i s (ownerEnd n s) :=
  onLine_ownerStep n fun l => by
    split
    · exact ownerStep_same
    · next hd =>
      split
      · next hholds => exact .answers (.ends l _ hd hholds) nofun
      · exact ownerStep_same

/-! ### Calibration and lock -/

theorem ownerWriteCalibrationItem_ownerStep (quoted scope kind band : Nat) (value : BitVec 64) :
    OwnerStep i s (ownerWriteCalibrationItem quoted scope kind band value s) := by
  have hr : ∀ st, OwnerStep i s (refuseWrite s st) := fun _ => ownerStep_same
  unfold ownerWriteCalibrationItem
  refine ite_ownerStep (hr _) (ite_ownerStep (hr _) (ite_ownerStep (hr _) (ite_ownerStep (hr _) ?_)))
  split
  · exact hr _
  · refine ite_ownerStep (hr _) ?_
    split
    · exact hr _
    · next hroom => exact .accepts _ _ _ (by simpa using hroom) rfl (.refl _)

theorem ownerSetCredential_ownerStep (kind : Nat) (value : BitVec 128) (level : Nat) :
    OwnerStep i s (ownerSetCredential kind value level s) := by
  have hr : ∀ st, OwnerStep i s (s, plain st) := fun _ => ownerStep_same
  unfold ownerSetCredential
  refine ite_ownerStep (hr _) (ite_ownerStep (hr _) (ite_ownerStep (hr _) (ite_ownerStep (hr _) ?_)))
  split
  · exact hr _
  · refine ite_ownerStep (hr _) ?_
    split
    · exact hr _
    · next hroom => exact .accepts _ _ _ (by simpa using hroom) rfl { Quiet.refl (acceptCalibration _ _ _ s) with }

theorem ownerRemoveLock_ownerStep : OwnerStep i s (ownerRemoveLock s) := by
  have hr : ∀ st, OwnerStep i s (s, plain st) := fun _ => ownerStep_same
  unfold ownerRemoveLock
  refine ite_ownerStep (hr _) (ite_ownerStep (hr _) (ite_ownerStep (hr _) ?_))
  split
  · exact hr _
  · next hroom => exact .accepts _ _ _ (by simpa using hroom) rfl (.refl _)

theorem ownerUnlock_ownerStep (kind : Nat) (value : BitVec 128) : OwnerStep i s (ownerUnlock kind value s) := by
  have hr : ∀ st, OwnerStep i s (unlockAnswer s st) := fun _ => ownerStep_same
  unfold ownerUnlock
  refine ite_ownerStep (hr _) (ite_ownerStep (hr _) ?_)
  split
  · exact hr _
  · exact ite_ownerStep (hr _) (ite_ownerStep (hr _) (ite_ownerStep (.answers .spends nofun)
      (ownerStep_of_quiet { Quiet.refl s with })))

/-! ### The command port -/

/-- The owners of the other commands leave the journal alone. -/
theorem runCommand_ownerStep (c : Command) : OwnerStep i s (runCommand c s) := by
  have h := Quiet.refl s
  cases c
  case arm line order compartment => exact onLine_ownerStep line fun l => armLine_ownerStep l order compartment
  case armFlush line compartment => exact onLine_ownerStep line fun l => armFlushLine_ownerStep l compartment
  case disarm line => exact ownerDisarm_ownerStep line
  case start line => exact ownerStart_ownerStep line
  case pause line => exact ownerPause_ownerStep line
  case resume line => exact ownerResume_ownerStep line
  case stop line => exact ownerStop_ownerStep line
  case endDelivery line => exact ownerEnd_ownerStep line
  case emergencyStop => exact ownerEmergencyStop_ownerStep
  case readLineStatus line => exact onLine_ownerStep line fun _ => ownerStep_same
  case readTotalizers line => exact onLine_ownerStep line fun _ => ownerStep_same
  case readRecord n =>
    simp only [runCommand, ownerReadRecord, readOut]
    (repeat' split) <;> exact .answers (.of_quiet { h with }) nofun
  case releaseThrough n => exact ite_ownerStep ownerStep_same (.answers (.releases n) nofun)
  case writeCalibrationItem quoted scope kind band value =>
    exact ownerWriteCalibrationItem_ownerStep quoted scope kind band value
  case unlock kind value => exact ownerUnlock_ownerStep kind value
  case setCredential kind value level => exact ownerSetCredential_ownerStep kind value level
  case removeLock => exact ownerRemoveLock_ownerStep
  all_goals
    simp only [runCommand, ownerLoadOrder, ownerRemoveOrder, ownerReadOrder, ownerLoadCompartment, ownerReadCompartment,
      ownerReadProduct, ownerReadJournalState, ownerReadCalibrationIdentity, ownerReadCalibrationItem, ownerLock,
      ownerFreeze, ownerWritePassEntry, ownerDeletePassEntry, ownerReadPassEntry, ownerReadForwardingCounters,
      ownerClearForwardingCounters, ownerSetTime, ownerWriteSetting, ownerReadSetting, ownerRestoreDefaults,
      ownerReadDeviceStatus, ownerClearCondition, ownerPark, ownerRestart]
    (repeat' split) <;> exact ownerStep_of_quiet { h with }

/-- The commands that are taken while another is in flight answer at once (R181). -/
theorem runCommand_of_takenInFlight {c : Command} (h : takenInFlight c.code = true) :
    (runCommand c s).2 ≠ .inFlight := by
  cases c
  case pause line =>
    simp only [runCommand, ownerPause, onLine, plain]
    (repeat' split) <;> nofun
  case stop line =>
    simp only [runCommand, ownerStop, onLine, plain]
    (repeat' split) <;> nofun
  case emergencyStop => nofun
  all_goals exact absurd h Bool.false_ne_true

/-- The command that values spell has the code they were read for. -/
theorem code_of_commandOfValues {code : Nat} {values : List Nat} {c : Command}
    (h : commandOfValues code values = some c) : c.code = code := by
  unfold commandOfValues at h
  (repeat' split at h) <;> cases h <;> rfl

theorem code_of_commandOfData {data : List Byte} {c : Command} (h : commandOfData data = some c) :
    c.code = dataByte data 0 := by
  obtain ⟨ws, -, hread⟩ := Option.bind_eq_some_iff.mp h
  obtain ⟨values, -, hvalues⟩ := Option.bind_eq_some_iff.mp hread
  exact code_of_commandOfValues hvalues

/-- A decided command is answered, or is in flight where none was (R146, R181). -/
theorem placeAnswer_journalStep {r : State × Answer} (hr : OwnerStep i s r) (hon : s.power.on = true)
    (hflight : r.2 = .inFlight → s.port.inFlight = none) (code tag : Nat) :
    JournalStep i s (placeAnswer code tag r.2 r.1) := by
  obtain ⟨t, a⟩ := r
  cases hr with
  | answers ht ha =>
    cases a with
    | reply st data => exact .followed ht { Quiet.refl t with }
    | record x y => exact .followed ht { Quiet.refl t with }
    | inFlight => exact absurd rfl ha
  | accepts item old new hroom ha ht =>
    cases ha
    exact .followed (.accepts item old new { code := code, tag := tag } hon (hflight rfl) hroom) { ht with inFlight := rfl }

theorem takeCommandFrame_journalStep (hon : s.power.on = true) (code tag : Nat) {c : Option Command}
    (hc : ∀ x, c = some x → x.code = code) : JournalStep i s (takeCommandFrame code tag c s) := by
  have hd : OwnerStep i s (decideCommand code c s) ∧
      ((decideCommand code c s).2 = .inFlight → s.port.inFlight = none) := by
    unfold decideCommand
    split
    · exact ⟨ownerStep_same, nofun⟩
    · split
      · exact ⟨ownerStep_same, nofun⟩
      · next hbusy =>
        cases c with
        | none => exact ⟨ownerStep_same, nofun⟩
        | some x =>
          refine ⟨runCommand_ownerStep x, fun ha => ?_⟩
          have hnot : takenInFlight code ≠ true := fun ht => runCommand_of_takenInFlight (hc x rfl ▸ ht) ha
          have hrest : s.port.inFlight = none ∧ s.port.pendingReset = none := by simpa [portBusy, hnot] using hbusy
          exact hrest.1
  unfold takeCommandFrame
  split
  · exact .of_quiet { Quiet.refl s with }
  · exact .followed (placeAnswer_journalStep hd.1 hon hd.2 code tag) { Quiet.refl _ with }

theorem receiveCab_journalStep {f : State → State} (hf : JournalStep i s (f s)) : JournalStep i s (receiveCab f s) := by
  unfold receiveCab
  split
  · exact .rests
  · split
    · exact .of_quiet (wakeEvent_quiet (.refl s))
    · split
      · exact .rests
      · split
        · exact .rests
        · exact hf

theorem handleCabFrame_journalStep (hon : s.power.on = true) (f : Frame) : JournalStep i s (handleCabFrame f s) := by
  unfold handleCabFrame
  split
  · split
    · exact takeCommandFrame_journalStep hon _ _ fun x hx => code_of_commandOfData hx
    · exact .rests
  · exact .of_quiet (ite_quiet (modCounters_quiet (.refl s) _ _) (forwardFrame_quiet (.refl s) _ _))

/-! ### Power-on, and the completion of writes -/

theorem event_journalStep {f : State → State} (hf : s.power.on = true → JournalStep i s (f s)) :
    JournalStep i s (event f s) := by
  cases hon : s.power.on with
  | true =>
    rw [event_of_on hon]
    exact .followed (hf hon) (settle_quiet (.refl _) s)
  | false =>
    rw [event_of_off hon]
    exact .rests

theorem completed_power (w : JournalWrite) (rest : List JournalWrite) (s : State) :
    (completed w rest s).power = s.power := by
  unfold completed reportCompletion
  split
  · unfold closeLine
    split
    · rfl
    · simp only [releaseGrant]
      rw [enterState_power]
      split <;> rfl
  · next r _ _ =>
    rw [restartRelock_eq, answerInFlight]
    split <;> exact (completeRecord_applied r _).power
  · rfl

theorem takeWriteCompletion_journalStep (hon : s.power.on = true) (hi : i = .writeCompletion) :
    JournalStep i s (takeWriteCompletion s) := by
  unfold takeWriteCompletion
  split
  · exact .rests
  · next w rest hqueue =>
    dsimp only
    rw [← completed]
    split
    · next hwaits =>
      rw [completed_power] at hwaits
      exact .completesAndPowersOn w rest hon hqueue
        (.inr (.inr (.inl ⟨hi, hon, hwaits, by rw [hqueue]; exact List.cons_ne_nil w rest⟩)))
    · exact .completes w rest hon hqueue

theorem takeTransmission_journalStep (hon : s.power.on = true) (k : Link) (hi : i = .transmissionCompletion k) :
    JournalStep i s (takeTransmission k s) := by
  have h := Quiet.refl s
  unfold takeTransmission
  split
  · split
    · exact .of_quiet (countForwarded_quiet (t := { s with forward := { s.forward with txField := none } })
        { h with } _ _)
    · exact .rests
  · split
    · next x hlink htx =>
      have hc := countForwarded_quiet (t := { s with forward := { s.forward with txCab := none } }) { h with }
        .fieldToCab x
      have hport : (countForwarded .fieldToCab x { s with forward := { s.forward with txCab := none } }).port =
          s.port := by
        unfold countForwarded
        split <;> rfl
      generalize countForwarded .fieldToCab x _ = q at hc hport
      unfold performCompletion performReset
      split
      · exact .of_quiet hc
      · next k hk =>
        split
        · next hpending =>
          cases k with
          | park => exact .of_quiet (ite_quiet { hc with } { hc with })
          | restart =>
            rw [hport] at hpending
            exact .powersOn true _ { tick_quiet (tick_quiet hc .line1) .line2 with } (fun _ => rfl)
              (.inr (.inr (.inr ⟨hi, hon, hlink, hpending, x, htx, hk⟩)))
        · exact .of_quiet hc
    · exact .rests

/-- A release of POWER_FAIL in holdup brings power-on, at once or when the write in progress completes (R195). -/
theorem takeRelease_journalStep (hon : s.power.on = true) (hi : i = .powerFailRelease) :
    JournalStep i s (takeRelease (setFailPin false s)) := by
  have hp : Quiet s (setFailPin false s) := { Quiet.refl s with }
  unfold takeRelease
  split
  · exact .of_quiet hp
  · next hheld =>
    split
    · next hempty =>
      exact .powersOn false _ hp id
        (.inr (.inl ⟨hi, hon, by simpa [setFailPin] using hheld, by simpa using hempty⟩))
    · exact .of_quiet { hp with }

/-- Every command takes one of the steps. -/
theorem exec_journalStep {t : State} (he : exec i s = .next t) : JournalStep i s t := by
  have h := Quiet.refl s
  cases i <;> injection he with he <;> subst he
  case edgeEvent l e t =>
    have hl : Quiet s (setLevel l e s) := { h with }
    exact .of_quiet (hl.trans (timedEvent_quiet t fun _ hq => takeEdge_quiet hq l e))
  case periodTimerOverflow l t => exact .of_quiet (timedEvent_quiet t fun _ hq => takeOverflow_quiet hq l)
  case meteringTick l t => exact .of_quiet (timedEvent_quiet t fun _ hq => takeTick_quiet hq l)
  case temperatureAgeExpiry l t => exact .of_quiet (timedEvent_quiet t fun _ hq => hq)
  case noFlowTimerExpiry l t => exact .of_quiet (timedEvent_quiet t fun _ hq => takeNoFlowExpiry_quiet hq l)
  case airClearTimerExpiry l t => exact .of_quiet (timedEvent_quiet t fun _ hq => takeAirClearExpiry_quiet hq l)
  case airHoldTimerExpiry l t => exact .of_quiet (timedEvent_quiet t fun _ hq => takeAirHoldExpiry_quiet hq l)
  case airSilenceExpiry l t => exact .of_quiet (timedEvent_quiet t fun _ hq => takeAirSilenceExpiry_quiet hq l)
  case reportTimerExpiry l t => exact .of_quiet (timedEvent_quiet t fun _ hq => takeReportExpiry_quiet hq l)
  case relockTimerExpiry t => exact .of_quiet (timedEvent_quiet t fun _ hq => ite_quiet { hq with } hq)
  case confirmationTimerExpiry l t => exact .of_quiet (timedEvent_quiet t fun _ hq => takeConfirmExpiry_quiet hq l)
  case retryTimerExpiry l t => exact .of_quiet (timedEvent_quiet t fun _ hq => takeRetryExpiry_quiet hq l)
  case wakeDelayEnd t => exact .of_quiet (timedEvent_quiet t fun _ hq => ite_quiet { hq with } hq)
  case fieldFrameArrival f => exact .of_quiet (event_quiet (takeFieldFrame_quiet h f))
  case cabFrameArrival f => exact event_journalStep fun hon => receiveCab_journalStep (handleCabFrame_journalStep hon f)
  case fieldPortTake => exact .of_quiet (event_quiet (takeFieldPort_quiet h))
  case cabPortTake => exact .of_quiet (event_quiet (takeCabPort_quiet h))
  case transmissionCompletion k => exact event_journalStep fun hon => takeTransmission_journalStep hon k rfl
  case busOff k => exact .of_quiet (event_quiet (enterBusOff_quiet h k))
  case busOffRecovery k => exact .of_quiet (event_quiet (recoverBusOff_quiet h k))
  case writeCompletion => exact event_journalStep fun hon => takeWriteCompletion_journalStep hon rfl
  case powerFail =>
    have hp : Quiet s (setFailPin true s) := { h with }
    exact .of_quiet (hp.trans (event_quiet (takePowerFail_quiet (.refl _))))
  case powerFailRelease =>
    unfold event
    split
    · next hon => exact .followed (takeRelease_journalStep hon rfl) (settle_quiet (.refl _) _)
    · exact .of_quiet { h with }
  case supplyFailure b => exact .losesSupply b
  case powerOn => exact .followed (.powersOn false s h id (.inl rfl)) (settle_quiet (.refl _) s)
  case storageMediumFailure n left => exact .damages n left rfl
  all_goals
    exact event_journalStep fun hon => receiveCab_journalStep (takeCommandFrame_journalStep hon _ _ fun x hx =>
      (Option.some.inj hx) ▸ rfl)

end

end Sys2Proof.Machine

namespace Sys2Proof.Machine

/-! ### The journal's operations, by holder -/

section
variable (j : Journal) (h x : Holder)

@[simp] theorem reserve_queue (k : RecordKind) : (reserve h k j).queue = j.queue := by
  unfold reserve evictOldest
  split <;> rfl

@[simp] theorem reserve_newestSeq (k : RecordKind) : (reserve h k j).newestSeq = j.newestSeq := by
  unfold reserve evictOldest
  split <;> rfl

@[simp] theorem reserve_newestWritten (k : RecordKind) : (reserve h k j).newestWritten = j.newestWritten := by
  unfold reserve evictOldest
  split <;> rfl

@[simp] theorem reserve_newestTicket (k : RecordKind) : (reserve h k j).newestTicket = j.newestTicket := by
  unfold reserve evictOldest
  split <;> rfl

@[simp] theorem reserve_reservations (k : RecordKind) :
    (reserve h k j).reservations = j.reservations ++ [{ holder := h, kind := k, sequence := none }] := by
  unfold reserve evictOldest
  split <;> rfl

/-- The records that a reservation leaves: all of them where a place is empty, else all but the oldest released ones
(R119). -/
theorem reserve_records (k : RecordKind) :
    (reserve h k j).records = if 0 < emptyPlaces j then j.records else (evictOldest j).records := by
  unfold reserve
  split <;> rfl

theorem reserve_records_sublist (k : RecordKind) : (reserve h k j).records.Sublist j.records := by
  rw [reserve_records]
  split
  · exact List.Sublist.refl _
  · exact List.filter_sublist

theorem heldBy_reserve (k : RecordKind) :
    heldBy (reserve h k j) x =
      heldBy j x ++ (if h = x then [{ holder := h, kind := k, sequence := none }] else []) := by
  rw [heldBy, reserve_reservations, List.filter_append]
  by_cases hx : h = x <;> simp [heldBy, hx]

theorem writesOf_reserve (k : RecordKind) : writesOf (reserve h k j) x = writesOf j x := by
  rw [writesOf, reserve_queue, writesOf]

/-- The reservations left without those of a holder. -/
theorem filter_holder_ne (rs : List Reservation) :
    (rs.filter fun r => decide (r.holder ≠ h)).filter (fun r => decide (r.holder = x)) =
      if x = h then [] else rs.filter fun r => decide (r.holder = x) := by
  rw [List.filter_filter]
  split
  · next hx => simp [hx]
  · next hx =>
    refine List.filter_congr fun r _ => ?_
    by_cases hr : r.holder = x <;> simp [hr, hx]

theorem heldBy_returnReservation : heldBy (returnReservation h j) x = if x = h then [] else heldBy j x :=
  filter_holder_ne h x j.reservations

theorem heldBy_requestWrite (c : Contents) :
    heldBy (requestWrite h c j) x =
      if x = h then (heldBy j x).map fun r => { r with sequence := some (j.newestSeq + 1) } else heldBy j x := by
  show (j.reservations.map fun r => if r.holder = h then { r with sequence := some (j.newestSeq + 1) } else r).filter
    (fun r => decide (r.holder = x)) = _
  have hholder : ∀ r : Reservation,
      (if r.holder = h then { r with sequence := some (j.newestSeq + 1) } else r).holder = r.holder := fun r => by
    split <;> rfl
  rw [List.filter_map, show (fun r : Reservation => decide (r.holder = x)) ∘ _ = fun r => decide (r.holder = x) from
    funext fun r => by rw [Function.comp, hholder], ← heldBy]
  split
  · next hx =>
    refine List.map_congr_left fun r hr => if_pos ?_
    exact (of_decide_eq_true (List.mem_filter.mp hr).2).trans hx
  · next hx =>
    refine (List.map_congr_left fun r hr => if_neg fun he => hx ?_).trans (List.map_id _)
    exact (of_decide_eq_true (List.mem_filter.mp hr).2).symm.trans he

theorem writesOf_requestWrite (c : Contents) :
    writesOf (requestWrite h c j) x =
      writesOf j x ++ (if h = x then [{ holder := h, sequence := j.newestSeq + 1, contents := c }] else []) := by
  show (j.queue ++ [_]).filter _ = _
  rw [List.filter_append]
  by_cases hx : h = x <;> simp [writesOf, hx]

variable (w : JournalWrite) (rest : List JournalWrite)

theorem heldBy_completeWrite : heldBy (completeWrite w rest j) x = if x = w.holder then [] else heldBy j x :=
  filter_holder_ne w.holder x j.reservations

/-- The writes of a holder, with the one at the head of the queue told apart. -/
theorem writesOf_of_head {j : Journal} {w : JournalWrite} {rest : List JournalWrite} (hq : j.queue = w :: rest)
    (x : Holder) : writesOf j x = (if x = w.holder then [w] else []) ++ writesOf (completeWrite w rest j) x := by
  show _ = _ ++ rest.filter fun v => decide (v.holder = x)
  rw [writesOf, hq, List.filter_cons]
  by_cases hx : x = w.holder
  · simp [hx]
  · simp [hx, Ne.symm hx]

/-- A holder's reservations and the others are all the reservations. -/
theorem reservations_length (h : Holder) :
    (j.reservations.filter fun r => decide (r.holder ≠ h)).length + (heldBy j h).length = j.reservations.length := by
  have := List.length_eq_length_filter_add (l := j.reservations) fun r => decide (r.holder = h)
  simp only [heldBy, ne_eq, decide_not]
  omega

end

/-- An available place is an empty one, or one of a released record (R119). -/
theorem placeAvailable_iff (j : Journal) :
    placeAvailable j = true ↔
      j.records.length + j.reservations.length < 1024 ∨ ∃ r ∈ j.records, r.released = true := by
  simp [placeAvailable, emptyPlaces, journalPlaces]

/-- The oldest released record is a released one of the least number (R119). -/
theorem oldestReleased_eq_some_iff {j : Journal} {n : Nat} :
    oldestReleased j = some n ↔
      (∃ r ∈ j.records, r.released = true ∧ r.sequence = n) ∧
        ∀ x ∈ j.records, x.released = true → n ≤ x.sequence := by
  have hmem : ∀ a, a ∈ (j.records.filter (·.released)).map (·.sequence) ↔
      ∃ r ∈ j.records, r.released = true ∧ r.sequence = a := by simp [and_assoc]
  rw [oldestReleased, List.min?_eq_some_iff, hmem]
  refine and_congr_right fun _ => ⟨fun h x hx hr => h _ ((hmem _).mpr ⟨x, hx, hr, rfl⟩), fun h b hb => ?_⟩
  obtain ⟨x, hx, hr, rfl⟩ := (hmem b).mp hb
  exact h x hx hr

/-- The places that the records and reservations take up after a granted reservation (R117, R119). -/
theorem reserve_places {j : Journal} (h : j.records.length + j.reservations.length ≤ 1024)
    (hroom : placeAvailable j = true) (x : Holder) (k : RecordKind) :
    (reserve x k j).records.length + (reserve x k j).reservations.length ≤ 1024 := by
  rw [reserve_reservations, reserve_records, List.length_append, List.length_singleton]
  split
  · next hempty =>
    simp only [emptyPlaces, journalPlaces] at hempty
    omega
  · next hfull =>
    simp only [emptyPlaces, journalPlaces] at hfull
    obtain ⟨r, hr, hreleased⟩ := ((placeAvailable_iff j).mp hroom).resolve_left (by omega)
    have hlt : (evictOldest j).records.length < j.records.length := by
      cases ho : oldestReleased j with
      | none =>
        simp only [oldestReleased, List.min?_eq_none_iff, List.map_eq_nil_iff, List.filter_eq_nil_iff] at ho
        exact absurd hreleased (ho r hr)
      | some n =>
        obtain ⟨⟨x, hx, hxr, hxn⟩, -⟩ := oldestReleased_eq_some_iff.mp ho
        exact List.length_filter_lt_length_iff_exists.mpr ⟨x, hx, by simp [hxr, hxn, ho]⟩
    omega

theorem canReserve_placeAvailable {j : Journal} {k : RecordKind} (h : canReserve j k = true) :
    placeAvailable j = true := by
  rw [canReserve, Bool.and_eq_true] at h
  exact h.1

end Sys2Proof.Machine

namespace Sys2Proof.Machine

/-! ### The order of the journal (R117, R119, R125, R135, R142) -/

/-- What a line's state calls for in the journal: a reservation outside IDLE, numbered in CLOSING alone, and a queued write
in CLOSING (R117, R125). -/
def Journal.serves (j : Journal) (l : LineId) (st : LineState) : Prop :=
  (heldBy j (.line l)).length = (if st = .idle then 0 else 1) ∧
    (writesOf j (.line l)).length = (if st = .closing then 1 else 0) ∧
    ∀ r ∈ heldBy j (.line l), r.sequence.isSome = true ↔ st = .closing

/-- A queued write holds its requester's kind of record, and a calibration write bears the next event count (R125,
R135). -/
def JournalWrite.fits (count : Nat) (w : JournalWrite) : Prop :=
  (w.holder = .calibration ↔ ∃ c, w.contents = .calibration c) ∧
    ∀ c, w.contents = .calibration c → c.newCount = count + 1

theorem JournalWrite.fits_of_delivery (count : Nat) (l : LineId) (n : Nat) (d : DeliveryRecord) :
    JournalWrite.fits count { holder := .line l, sequence := n, contents := .delivery d } := by
  simp [fits]

/-- `EventCountLaw` but for the line context store, one field for each part of it (`eventCountLaw_iff`). -/
structure JournalOrder (s : State) : Prop where
  lines : ∀ l, (s.line.get l).lawful
  places : s.journal.records.length + s.journal.reservations.length ≤ 1024
  serves : ∀ l, s.journal.serves l (s.lineState l)
  held : (heldBy s.journal .calibration).length ≤ 1
  writes : (writesOf s.journal .calibration).length = (heldBy s.journal .calibration).length
  flight : s.power.on = true → ((heldBy s.journal .calibration).length = 1 ↔ s.port.inFlight.isSome = true)
  queue : ∀ w ∈ s.journal.queue, w.fits s.cal.eventCount

theorem eventCountLaw_iff (s : State) : EventCountLaw s ↔ StoreAgrees s ∧ JournalOrder s := by
  constructor
  · rintro ⟨⟨hcontext, hplaces, hserves, hheld, hwrites, hflight, hholders⟩, hcounts⟩
    obtain ⟨hstore, hlines⟩ := (contextLaw_iff s).mp hcontext
    exact ⟨hstore, hlines, hplaces, hserves, hheld, hwrites, hflight, fun w hw => ⟨hholders w hw, hcounts w hw⟩⟩
  · rintro ⟨hstore, h⟩
    exact ⟨⟨(contextLaw_iff s).mpr ⟨hstore, h.lines⟩, h.places, h.serves, h.held, h.writes, h.flight, fun w hw => (h.queue w hw).1⟩,
      fun w hw => (h.queue w hw).2⟩

/-- What a line's state calls for is the same in two states that are both, or neither, IDLE and CLOSING. -/
theorem Journal.serves_congr {j : Journal} {l : LineId} {a b : LineState} (hidle : b = .idle ↔ a = .idle)
    (hclosing : b = .closing ↔ a = .closing) (h : j.serves l a) : j.serves l b := by
  unfold Journal.serves at h ⊢
  simp only [hidle, hclosing]
  exact h

/-- The journal serves a line by the line's own reservations and writes alone. -/
theorem Journal.serves_of_eq {j k : Journal} {l : LineId} {st : LineState} (h : j.serves l st)
    (hheld : heldBy k (.line l) = heldBy j (.line l)) (hwrites : writesOf k (.line l) = writesOf j (.line l)) :
    k.serves l st := by
  unfold Journal.serves at h ⊢
  rw [hheld, hwrites]
  exact h

section
variable {s : State} (h : JournalOrder s)
include h

theorem Quiet.journalOrder {t : State} (hq : Quiet s t) : JournalOrder t where
  lines l := (hq.moves l).lawful (h.lines l)
  places := by rw [hq.journal]; exact h.places
  serves l := by
    rw [hq.journal]
    exact Journal.serves_congr (hq.moves l).idle (hq.moves l).closing (h.serves l)
  held := by rw [hq.journal]; exact h.held
  writes := by rw [hq.journal]; exact h.writes
  flight := by rw [hq.journal, hq.inFlight, hq.supply]; exact h.flight
  queue := by rw [hq.journal, hq.cal]; exact h.queue

/-- A line in IDLE has no delivery, and every other has one (R68, R69). -/
theorem JournalOrder.ctx_eq_none_iff (l : LineId) : s.ctx l = none ↔ s.lineState l = .idle := (h.lines l).1

/-- No calibration reservation stands while no command is in flight (R181). -/
theorem JournalOrder.none_held (hon : s.power.on = true) (hflight : s.port.inFlight = none) :
    heldBy s.journal .calibration = [] := by
  have hne : (heldBy s.journal .calibration).length ≠ 1 := fun e => by
    have := (h.flight hon).mp e
    simp [hflight] at this
  have hle := h.held
  exact List.length_eq_zero_iff.mp (by omega)

omit h in
/-- A line that enters a state other than AIR_HOLD, with the delivery that the state calls for. -/
theorem Line.entered_lawful {ln : Line} {st : LineState} (hctx : ln.kept.ctx = none ↔ st = .idle)
    (hair : st ≠ .airHold) (hflow : st.flows = false) (hreport : ln.kept.state ≠ .idle → ln.report ≠ none) (report : Micros) :
    (ln.entered st report).lawful := by
  refine ⟨hctx, ?_, ?_, ?_, ?_⟩
  · simp [entered, hair]
  · simp [entered, hflow]
  · simp [entered, hair]
  · by_cases hs : st = .idle
    · simp [entered, hs]
    · by_cases hi : ln.kept.state = .idle
      · simp [entered, hs, hi]
      · simpa [entered, hs, hi] using hreport hi

omit h in
/-- The journal's part of an act of line `l`: `k` serves what the line comes to, and what is another holder's is as it was
in `j`. -/
structure LineAct (l : LineId) (st : LineState) (count : Nat) (j k : Journal) : Prop where
  places : k.records.length + k.reservations.length ≤ 1024
  serves : k.serves l st
  held : ∀ x, x ≠ .line l → heldBy k x = heldBy j x
  writes : ∀ x, x ≠ .line l → writesOf k x = writesOf j x
  queue : ∀ w ∈ k.queue, w.fits count

/-- A line acts on the journal and enters the state that the act brings (R72 to R74, R80, R100). -/
theorem LineAct.journalOrder {l : LineId} {st : LineState} {q : State} {kept : LineCopy}
    (ha : LineAct l st s.cal.eventCount s.journal q.journal)
    (hline : q.line = s.line.set l { s.line.get l with kept := kept }) (hkept : kept.state = s.lineState l)
    (hctx : kept.ctx = none ↔ st = .idle) (hair : st ≠ .airHold) (hflow : st.flows = false)
    (hport : q.port = s.port) (hpower : q.power = s.power) (hcal : q.cal = s.cal) :
    JournalOrder (enterState l st q) := by
  have hreport : kept.state ≠ .idle → (s.line.get l).report ≠ none := fun hne hnone => by
    obtain ⟨-, -, -, -, hr⟩ := h.lines l
    exact hne (hkept.trans (hr.mp hnone))
  have hcalibration : Holder.calibration ≠ .line l := nofun
  have hget : ∀ m, (enterState l st q).line.get m =
      if m = l then Line.entered st (q.awake + q.settings.reportInterval * 1000) { s.line.get l with kept := kept }
      else s.line.get m := fun m => by
    rw [enterState_eq, hline, PerLine.get_set_same, PerLine.set_set, PerLine.get_set]
  constructor
  · intro m
    rw [hget]
    split
    · exact Line.entered_lawful hctx hair hflow hreport _
    · exact h.lines m
  · rw [enterState_journal]
    exact ha.places
  · intro m
    rw [enterState_journal, State.lineState, hget]
    split
    · next hm => exact hm ▸ ha.serves
    · next hm =>
      have hne : Holder.line m ≠ .line l := fun e => hm (Holder.line.inj e)
      exact Journal.serves_of_eq (h.serves m) (ha.held _ hne) (ha.writes _ hne)
  · rw [enterState_journal, ha.held _ hcalibration]
    exact h.held
  · rw [enterState_journal, ha.held _ hcalibration, ha.writes _ hcalibration]
    exact h.writes
  · rw [enterState_journal, enterState_port, enterState_power, hport, hpower, ha.held _ hcalibration]
    exact h.flight
  · rw [enterState_journal, enterState_cal, hcal]
    exact ha.queue

/-! ### Line commands -/

/-- ARM and ARM FLUSH open a delivery on a line in IDLE (R72, R73). -/
theorem openDelivery_journalOrder {l : LineId} {d : Delivery} (hidle : s.lineState l = .idle)
    (hroom : canReserve s.journal d.kind.recordKind = true) (orders : List Order) :
    JournalOrder (openDelivery l d { s with orders := orders }) := by
  obtain ⟨hheld, hwrites, -⟩ := h.serves l
  rw [if_pos hidle, List.length_eq_zero_iff] at hheld
  rw [if_neg (by rw [hidle]; exact nofun)] at hwrites
  refine LineAct.journalOrder h (l := l) (st := .armed)
    (kept := { (s.line.get l).kept with ctx := some d, unattended := 0 })
    ⟨?_, ⟨?_, ?_, ?_⟩, fun x hx => ?_, fun x _ => ?_, ?_⟩ rfl rfl (iff_of_false nofun nofun) nofun rfl rfl rfl rfl
  · exact reserve_places h.places (canReserve_placeAvailable hroom) _ _
  · exact (congrArg List.length (heldBy_reserve s.journal (.line l) (.line l) _)).trans (by simp [hheld])
  · exact (congrArg List.length (writesOf_reserve s.journal (.line l) (.line l) _)).trans hwrites
  · intro r hr
    have hr : r ∈ heldBy (reserve (.line l) d.kind.recordKind s.journal) (.line l) := hr
    simp only [heldBy_reserve, hheld, if_true, List.nil_append, List.mem_singleton] at hr
    simp [hr]
  · exact (heldBy_reserve s.journal (.line l) x _).trans (by simp [hx.symm])
  · exact writesOf_reserve s.journal (.line l) x _
  · have hq : (reserve (.line l) d.kind.recordKind s.journal).queue = s.journal.queue := reserve_queue ..
    exact fun w hw => h.queue w (hq ▸ hw)

/-- DISARM undoes the ARM of a line in ARMED (R74). -/
theorem undoArm_journalOrder {l : LineId} (harmed : s.lineState l = .armed) (d : Delivery) :
    JournalOrder (undoArm l d s) := by
  obtain ⟨-, hwrites, -⟩ := h.serves l
  rw [if_neg (by rw [harmed]; exact nofun)] at hwrites
  have hheld := heldBy_returnReservation s.journal (.line l)
  have hself : heldBy (returnReservation (.line l) s.journal) (.line l) = [] := by rw [hheld, if_pos rfl]
  rw [undoArm_eq]
  refine LineAct.journalOrder h (l := l) (st := .idle)
    (kept := { (s.line.get l).kept with ctx := none, unattended := (s.line.get l).kept.unattended + d.unattendedBefore })
    ⟨?_, ⟨congrArg List.length hself, hwrites, ?_⟩, fun x hx => (hheld x).trans (if_neg hx), fun _ _ => rfl,
      h.queue⟩
    rfl rfl (iff_of_true rfl rfl) nofun rfl rfl rfl rfl
  · have := List.length_filter_le (fun r => decide (r.holder ≠ .line l)) s.journal.reservations
    have := h.places
    show s.journal.records.length + (s.journal.reservations.filter _).length ≤ 1024
    omega
  · intro r hr
    have hr : r ∈ heldBy (returnReservation (.line l) s.journal) (.line l) := hr
    simp [hself] at hr

omit h in
/-- A line's write request numbers its reservation and joins the queue (R125). -/
theorem requestWrite_lineAct {j : Journal} {l : LineId} {count : Nat}
    (hplaces : j.records.length + j.reservations.length ≤ 1024) (hheld : (heldBy j (.line l)).length = 1)
    (hwrites : writesOf j (.line l) = []) (hqueue : ∀ w ∈ j.queue, w.fits count) (d : DeliveryRecord) (ticket : Nat) :
    LineAct l .closing count j (requestWrite (.line l) (.delivery d) { j with newestTicket := ticket }) := by
  have hh : ∀ x, _ = _ := fun x => heldBy_requestWrite { j with newestTicket := ticket } (.line l) x (.delivery d)
  have hw : ∀ x, _ = _ := fun x => writesOf_requestWrite { j with newestTicket := ticket } (.line l) x (.delivery d)
  refine ⟨?_, ⟨?_, ?_, ?_⟩, fun x hx => (hh x).trans (if_neg hx), fun x hx => (hw x).trans ?_, ?_⟩
  · show _ + (j.reservations.map _).length ≤ 1024
    rw [List.length_map]
    exact hplaces
  · rw [hh, if_pos rfl, List.length_map]
    exact hheld
  · rw [hw, if_pos rfl, List.length_append]
    exact congrArg (·.length + 1) hwrites
  · intro r hr
    rw [hh, if_pos rfl] at hr
    obtain ⟨x, -, rfl⟩ := List.mem_map.mp hr
    exact iff_of_true rfl rfl
  · rw [if_neg hx.symm, List.append_nil]
    rfl
  · intro w hw
    rcases List.mem_append.mp hw with hw | hw
    · exact hqueue w hw
    · rw [List.mem_singleton.mp hw]
      exact JournalWrite.fits_of_delivery ..

/-- END queues the record of a line that holds (R80). -/
theorem endLine_journalOrder {l : LineId} {d : Delivery} (hd : s.ctx l = some d) (hholds : (s.lineState l).holds = true) :
    JournalOrder (endLine l d s).1 := by
  have hidle : s.lineState l ≠ .idle := fun e => by simp [(h.ctx_eq_none_iff l).mpr e] at hd
  have hclosing : s.lineState l ≠ .closing := fun e => by simp [e, LineState.holds] at hholds
  obtain ⟨hheld, hwrites, -⟩ := h.serves l
  rw [if_neg hidle] at hheld
  rw [if_neg hclosing, List.length_eq_zero_iff] at hwrites
  have hctx : (s.line.get l).kept.ctx = some d := hd
  refine LineAct.journalOrder h (st := .closing) (kept := { (s.line.get l).kept with ctx := some (endContext s d) })
    (requestWrite_lineAct h.places hheld hwrites h.queue _ _) ?_ rfl (iff_of_false nofun nofun) nofun rfl rfl rfl rfl
  simp only [State.modCtx, State.modKept, State.modLine, hctx, Option.map_some]

end

end Sys2Proof.Machine

namespace Sys2Proof.Machine

/-! ### Releases, calibration writes, completions and damage -/

section
variable {s : State} (h : JournalOrder s)
include h

/-- A change of records that adds none (R128, R131). -/
theorem JournalOrder.of_records {records : List JournalRecord} (hlen : records.length ≤ s.journal.records.length) :
    JournalOrder { s with journal := { s.journal with records := records } } :=
  { h with places := (Nat.add_le_add_right hlen _).trans h.places }

/-- The journal's part of an act of the calibration block, beside which the lines may move (R146, R148, R149). -/
theorem JournalOrder.of_calibration {t : State} (hmoves : ∀ l, (s.line.get l).Moves (t.line.get l))
    (hplaces : t.journal.records.length + t.journal.reservations.length ≤ 1024)
    (hheld : ∀ l, heldBy t.journal (.line l) = heldBy s.journal (.line l))
    (hwrites : ∀ l, writesOf t.journal (.line l) = writesOf s.journal (.line l))
    (hone : (heldBy t.journal .calibration).length ≤ 1)
    (hsame : (writesOf t.journal .calibration).length = (heldBy t.journal .calibration).length)
    (hflight : t.power.on = true → ((heldBy t.journal .calibration).length = 1 ↔ t.port.inFlight.isSome = true))
    (hqueue : ∀ w ∈ t.journal.queue, w.fits t.cal.eventCount) : JournalOrder t where
  lines l := (hmoves l).lawful (h.lines l)
  places := hplaces
  serves l := Journal.serves_congr (hmoves l).idle (hmoves l).closing
    (Journal.serves_of_eq (h.serves l) (hheld l) (hwrites l))
  held := hone
  writes := hsame
  flight := hflight
  queue := hqueue

/-- A calibration-class command is accepted: a place is reserved, the write queued, the command in flight (R146). -/
theorem acceptCalibration_journalOrder {f : InFlight} (hon : s.power.on = true) (hflight : s.port.inFlight = none)
    (hroom : canReserve s.journal .calibration = true) (item : RecordItem) (old new : CalValue) :
    JournalOrder { acceptCalibration item old new s with port := { s.port with inFlight := some f } } := by
  have hnone := h.none_held hon hflight
  have hnowrite : writesOf s.journal .calibration = [] := by
    have := h.writes
    rwa [hnone, List.length_nil, List.length_eq_zero_iff] at this
  have hheld : ∀ c x, _ = _ := fun c x =>
    heldBy_requestWrite (reserve .calibration .calibration s.journal) .calibration x (.calibration c)
  have hwrites : ∀ c x, _ = _ := fun c x =>
    writesOf_requestWrite (reserve .calibration .calibration s.journal) .calibration x (.calibration c)
  have hcal : ∀ c, (heldBy (requestWrite .calibration (.calibration c) (reserve .calibration .calibration s.journal))
      .calibration).length = 1 := fun c => by
    rw [hheld, if_pos rfl, List.length_map, heldBy_reserve, hnone]
    rfl
  rw [acceptCalibration, restartRelock_eq]
  refine h.of_calibration (fun _ => .refl _) ?_ (fun l => ?_) (fun l => ?_) (hcal _).le ?_
    (fun _ => iff_of_true (hcal _) rfl) ?_
  · have := reserve_places h.places (canReserve_placeAvailable hroom) .calibration .calibration
    show _ + ((reserve .calibration .calibration s.journal).reservations.map _).length ≤ 1024
    rwa [List.length_map]
  · rw [hheld, if_neg nofun, heldBy_reserve, if_neg nofun, List.append_nil]
  · rw [hwrites, if_neg nofun, writesOf_reserve, List.append_nil]
  · rw [hcal, hwrites, if_pos rfl, writesOf_reserve, hnowrite]
    rfl
  · intro w hw
    rcases List.mem_append.mp hw with hw | hw
    · rw [reserve_queue] at hw
      exact h.queue w hw
    · rw [List.mem_singleton.mp hw]
      simp [JournalWrite.fits]

/-! ### Completions -/

/-- The requester of a queued write has one reservation and one write (R117, R125). -/
theorem JournalOrder.head_held {w : JournalWrite} {rest : List JournalWrite} (hq : s.journal.queue = w :: rest) :
    (heldBy s.journal w.holder).length = 1 ∧ writesOf (completeWrite w rest s.journal) w.holder = [] := by
  have hw := congrArg List.length (writesOf_of_head hq w.holder)
  rw [if_pos rfl, List.length_append, List.length_singleton] at hw
  have hcase : (heldBy s.journal w.holder).length = 1 ∧ (writesOf s.journal w.holder).length ≤ 1 := by
    cases hh : w.holder with
    | line l =>
      obtain ⟨hheld, hwrites, -⟩ := h.serves l
      rw [hh] at hw
      split at hwrites
      · next hc => exact ⟨by rw [hheld, hc]; rfl, hwrites.le⟩
      · omega
    | calibration =>
      have := h.held
      have := h.writes
      rw [hh] at hw
      omega
  exact ⟨hcase.1, List.length_eq_zero_iff.mp (by omega)⟩

/-- The completed write takes the place of its reservation (R127). -/
theorem JournalOrder.completeWrite_places {w : JournalWrite} {rest : List JournalWrite}
    (hq : s.journal.queue = w :: rest) :
    (completeWrite w rest s.journal).records.length + (completeWrite w rest s.journal).reservations.length ≤ 1024 := by
  have := reservations_length s.journal w.holder
  have := (h.head_held hq).1
  have := h.places
  show (s.journal.records ++ [_]).length +
    (s.journal.reservations.filter fun r => decide (r.holder ≠ w.holder)).length ≤ 1024
  rw [List.length_append, List.length_singleton]
  omega

omit h in
/-- What the completion of a holder's write leaves of the others' reservations and writes. -/
theorem completeWrite_others {w : JournalWrite} {rest : List JournalWrite} (hq : s.journal.queue = w :: rest)
    {x : Holder} (hx : x ≠ w.holder) :
    heldBy (completeWrite w rest s.journal) x = heldBy s.journal x ∧
      writesOf (completeWrite w rest s.journal) x = writesOf s.journal x := by
  rw [heldBy_completeWrite, writesOf_of_head hq, if_neg hx, if_neg hx]
  exact ⟨rfl, rfl⟩

/-- The completion of a line's write brings the line to IDLE (R100). -/
theorem closeLine_journalOrder {w : JournalWrite} {rest : List JournalWrite} (hq : s.journal.queue = w :: rest)
    {l : LineId} (hl : w.holder = .line l) :
    JournalOrder (closeLine l { s with journal := completeWrite w rest s.journal }) := by
  obtain ⟨-, hnowrite⟩ := h.head_held hq
  have hclosing : s.lineState l = .closing := by
    obtain ⟨-, hwrites, -⟩ := h.serves l
    rw [writesOf_of_head hq, hl, if_pos rfl] at hwrites
    by_contra hc
    simp [hc] at hwrites
  obtain ⟨d, hd⟩ : ∃ d, s.ctx l = some d := Option.ne_none_iff_exists'.mp fun e => by
    have := (h.ctx_eq_none_iff l).mp e
    simp [hclosing] at this
  have hself : heldBy (completeWrite w rest s.journal) (.line l) = [] := by rw [heldBy_completeWrite, if_pos hl.symm]
  rw [closeLine_of_some (s := { s with journal := completeWrite w rest s.journal }) hd]
  refine LineAct.journalOrder h (l := l) (st := .idle)
    (kept := { (s.line.get l).kept with hose := hoseAfter s l d, ctx := none })
    ⟨h.completeWrite_places hq, ⟨congrArg List.length hself, congrArg List.length (hl ▸ hnowrite), ?_⟩,
      fun x hx => (completeWrite_others hq (hl ▸ hx)).1, fun x hx => (completeWrite_others hq (hl ▸ hx)).2, ?_⟩
    rfl rfl (iff_of_true rfl rfl) nofun rfl rfl rfl rfl
  · intro r hr
    rw [show heldBy _ _ = _ from hself] at hr
    exact absurd hr List.not_mem_nil
  · exact fun v hv => h.queue v (hq ▸ List.mem_cons_of_mem w hv)

omit h in
/-- What a record changes lets each line stay where it is (R141). -/
theorem applyRecord_moves (level : Bool) (r : CalibrationRecord) (s : State) (l : LineId) :
    (s.line.get l).Moves ((applyRecord level r s).line.get l) := by
  unfold applyRecord
  dsimp only
  split
  · next sel _ =>
    unfold itemEffect
    split
    · rw [State.modKept_line, PerLine.get_set]
      split
      · next hl => exact hl ▸ .of_kept rfl Iff.rfl rfl rfl rfl rfl
      · exact .refl _
    · exact .refl _
    · exact .refl _
  · exact .refl _
  · exact .refl _

omit h in
theorem completeRecord_moves (r : CalibrationRecord) (s : State) (l : LineId) :
    (s.line.get l).Moves ((completeRecord r s).line.get l) := applyRecord_moves _ r s l

/-- A calibration write at the head of the queue is completed, beside which the lines may move and the event count may
become the record's (R148, R149). -/
theorem completeWrite_journalOrder {w : JournalWrite} {rest : List JournalWrite} {t : State}
    (hq : s.journal.queue = w :: rest) (hw : w.holder = .calibration)
    (hmoves : ∀ l, (s.line.get l).Moves (t.line.get l)) (hjournal : t.journal = completeWrite w rest s.journal)
    (hflight : t.power.on = true → t.port.inFlight = none) : JournalOrder t := by
  obtain ⟨-, hnowrite⟩ := h.head_held hq
  have hnone : heldBy t.journal .calibration = [] := by rw [hjournal, heldBy_completeWrite, if_pos hw.symm]
  rw [hw, ← hjournal] at hnowrite
  refine h.of_calibration hmoves (hjournal ▸ h.completeWrite_places hq) (fun l => ?_) (fun l => ?_)
    (by simp [hnone]) (by simp [hnone, hnowrite]) (fun hon => by simp [hnone, hflight hon]) fun v hv => ?_
  · rw [hjournal]
    exact (completeWrite_others hq (hw ▸ nofun)).1
  · rw [hjournal]
    exact (completeWrite_others hq (hw ▸ nofun)).2
  · have hmem : v ∈ s.journal.queue := hq ▸ List.mem_cons_of_mem w (by rw [hjournal] at hv; exact hv)
    have hv : v.holder ≠ .calibration := fun hc => by
      have : v ∈ writesOf t.journal .calibration := List.mem_filter.mpr ⟨hv, decide_eq_true hc⟩
      simp [hnowrite] at this
    have hnot : ¬∃ c, v.contents = .calibration c := fun hc => hv ((h.queue v hmem).1.mpr hc)
    exact ⟨iff_of_false hv hnot, fun c hc => absurd ⟨c, hc⟩ hnot⟩

omit h in
/-- What the end of a flight leaves of the part: all but the lock's relock timer and the port (R148, R154). -/
structure FlightEnds (s t : State) : Prop where
  inFlight : t.port.inFlight = none
  line : t.line = s.line
  journal : t.journal = s.journal
  cal : t.cal = s.cal
  attempts : t.lock.attempts = s.lock.attempts

omit h in
theorem flightEnds_answerInFlight (n : Nat) (s : State) : FlightEnds s (answerInFlight n (restartRelock s)) := by
  rw [restartRelock_eq]
  unfold answerInFlight
  split
  · next hf => exact ⟨hf, rfl, rfl, rfl, rfl⟩
  · exact ⟨rfl, rfl, rfl, rfl, rfl⟩

/-- The completion of the write at the head of the queue (R127). -/
theorem completed_journalOrder {w : JournalWrite} {rest : List JournalWrite} (hq : s.journal.queue = w :: rest) :
    JournalOrder (completed w rest s) := by
  have hfits := h.queue w (hq ▸ List.mem_cons_self)
  unfold completed reportCompletion
  split
  · next l hl => exact closeLine_journalOrder h hq hl
  · next r hw _ =>
    have hmoves := completeRecord_moves r { s with journal := completeWrite w rest s.journal }
    have happlied := completeRecord_applied r { s with journal := completeWrite w rest s.journal }
    generalize completeRecord r _ = q at hmoves happlied
    have hends := flightEnds_answerInFlight w.sequence q
    exact completeWrite_journalOrder h hq hw (fun l => hends.line ▸ hmoves l) (hends.journal.trans happlied.journal)
      fun _ => hends.inFlight
  · next r hw hc =>
    obtain ⟨c, hc'⟩ := hfits.1.mp hw
    exact absurd (hc.symm.trans hc') nofun

/-- The event count after a completed write is the one before, or the record's (R142, R148). -/
theorem completed_eventCount {w : JournalWrite} {rest : List JournalWrite} (hq : s.journal.queue = w :: rest) :
    (completed w rest s).cal.eventCount = s.cal.eventCount ∨
      (completed w rest s).cal.eventCount = s.cal.eventCount + 1 := by
  have hfits := h.queue w (hq ▸ List.mem_cons_self)
  unfold completed reportCompletion
  split
  · next l hl =>
    left
    unfold closeLine
    split
    · rfl
    · rw [enterState_cal]
      split <;> rfl
  · next r hw hc =>
    rw [(flightEnds_answerInFlight ..).cal]
    exact .inr ((completeRecord_applied r _).eventCount.trans (hfits.2 r hc))
  · exact .inl rfl

/-- The supply fails (R149, R195). -/
theorem loseSupply_journalOrder (between : Bool) : JournalOrder (loseSupply between s) := by
  have hoff : ∀ q, JournalOrder q → JournalOrder { q with power := { q.power with on := false } } := fun q hq =>
    { hq with flight := fun e => absurd e Bool.false_ne_true }
  unfold loseSupply
  split
  · split
    · unfold storeFirstOnly
      split
      · exact hoff _ h
      · next w rest hq =>
        split
        · next c hc =>
          have hw := (h.queue w (hq ▸ List.mem_cons_self)).1.mpr ⟨c, hc⟩
          exact completeWrite_journalOrder h hq hw (fun _ => .refl _) rfl fun e => absurd e Bool.false_ne_true
        · exact hoff _ h
    · exact hoff _ h
  · exact h

end

end Sys2Proof.Machine

namespace Sys2Proof.Machine

/-! ### Power-on (R134 to R136, R196, R197) -/

/-- What the check of the newest CALIBRATION record leaves for the journal's laws: at most a record is gone, and at most the
event count of an intact CALIBRATION record has come into effect (R135, R150). -/
structure Checked (s t : State) : Prop where
  records : t.journal.records.Sublist s.journal.records
  reservations : t.journal.reservations = s.journal.reservations
  queue : t.journal.queue = s.journal.queue
  newestSeq : t.journal.newestSeq = s.journal.newestSeq
  newestWritten : t.journal.newestWritten = s.journal.newestWritten
  newestTicket : t.journal.newestTicket = s.journal.newestTicket
  moves : ∀ l, (s.line.get l).Moves (t.line.get l)
  ctx : ∀ l, t.ctx l = s.ctx l
  count : t.cal.eventCount = s.cal.eventCount ∨ t.cal.eventCount = s.cal.eventCount + 1 ∧
    ∃ r ∈ s.journal.records, r.kind = .calibration ∧ r.intact = true ∧
      ∃ c, calibrationOf r.contents = some c ∧ c.newCount = s.cal.eventCount + 1

theorem Checked.refl (s : State) : Checked s s :=
  ⟨List.Sublist.refl _, rfl, rfl, rfl, rfl, rfl, fun _ => .refl _, fun _ => rfl, .inl rfl⟩

theorem applyRecord_ctx (level : Bool) (r : CalibrationRecord) (s : State) (l : LineId) :
    (applyRecord level r s).ctx l = s.ctx l := by
  unfold applyRecord
  dsimp only
  split
  · next sel _ =>
    show ((itemEffect sel { s with cal := setItem s.cal sel r.newValue }).line.get l).kept.ctx = _
    rw [itemEffect_kept]
    split <;> rfl
  · rfl
  · rfl

theorem checked_checkNewestCalibration (s : State) : Checked s (checkNewestCalibration s) := by
  unfold checkNewestCalibration
  split
  · exact .refl s
  · next r hr =>
    obtain ⟨hmem, hkind, -⟩ := newestCalibration_some hr
    unfold checkRecord
    split
    · exact { Checked.refl s with records := List.filter_sublist }
    · next hintact =>
      split
      · next c hc =>
        split
        · next hcount =>
          have happlied := applyRecord_applied (valueStrict c.newValue) c s
          have hj := happlied.journal
          exact ⟨by rw [rollForward, hj], congrArg _ hj, congrArg _ hj, congrArg _ hj, congrArg _ hj, congrArg _ hj,
            applyRecord_moves _ c s, applyRecord_ctx _ c s,
            .inr ⟨happlied.eventCount.trans hcount, r, hmem, hkind, by simpa using hintact, c, hc, hcount⟩⟩
        · exact .refl s
      · exact .refl s

/-! ### The rewrites of lines restored in CLOSING (R136) -/

theorem holder_of_mem_rewriteRequest {s : State} {l : LineId} {w : JournalWrite} (hw : w ∈ rewriteRequest s l) :
    w.holder = .line l ∧ ∀ count, w.fits count := by
  unfold rewriteRequest at hw
  split at hw
  · split at hw
    · exact absurd hw List.not_mem_nil
    · rw [List.mem_singleton.mp hw]
      exact ⟨rfl, fun count => JournalWrite.fits_of_delivery count l _ _⟩
  · exact absurd hw List.not_mem_nil

/-- A line in CLOSING with a delivery and a numbered reservation requests one rewrite, and every other line none. -/
theorem rewriteRequest_length {s : State} {l : LineId} (hctx : s.lineState l = .closing → s.ctx l ≠ none)
    (hheld : s.lineState l = .closing → (heldBy s.journal (.line l)).length = 1)
    (hnumbered : ∀ r ∈ heldBy s.journal (.line l), r.sequence.isSome = true ↔ s.lineState l = .closing) :
    (rewriteRequest s l).length = if s.lineState l = .closing then 1 else 0 := by
  by_cases hc : s.lineState l = .closing
  · obtain ⟨d, hd⟩ := Option.ne_none_iff_exists'.mp (hctx hc)
    obtain ⟨r, hr⟩ := List.length_eq_one_iff.mp (hheld hc)
    obtain ⟨q, hq⟩ := Option.isSome_iff_exists.mp ((hnumbered r (by simp [hr])).mpr hc)
    have hfind : s.journal.reservations.find? (fun r => decide (r.holder = .line l)) = some r := by
      rw [← List.head?_filter, ← heldBy, hr]
      rfl
    simp only [rewriteRequest, hc, hd, hfind, hq, if_true, List.length_singleton]
  · rw [rewriteRequest_of_not_closing hc, if_neg hc]
    rfl

/-- The writes that a holder has after the rewrites are requested. -/
theorem writesOf_requestRewrites {s : State} (hempty : s.journal.queue = []) (x : Holder) :
    writesOf (requestRewrites s).journal x =
      match x with
      | .line l => rewriteRequest s l
      | .calibration => [] := by
  have hown : ∀ l, (rewriteRequest s l).filter (fun w => decide (w.holder = x)) =
      if x = .line l then rewriteRequest s l else [] := fun l => by
    split
    · next hx =>
      exact List.filter_eq_self.mpr fun w hw => decide_eq_true ((holder_of_mem_rewriteRequest hw).1.trans hx.symm)
    · next hx =>
      exact List.filter_eq_nil_iff.mpr fun w hw => by
        simpa [(holder_of_mem_rewriteRequest hw).1] using Ne.symm hx
  rw [requestRewrites_eq, writesOf, hempty, List.nil_append, List.filter_append, hown, hown]
  cases x with
  | line l => cases l <;> simp
  | calibration => rfl

/-! ### The restored part -/

theorem restoredLine_lawful {s : State} {l : LineId} (hstore : s.store.get l = (s.line.get l).kept)
    (h : (s.line.get l).lawful) : (restoredLine s l).lawful := by
  obtain ⟨hctx, -⟩ := h
  rw [← hstore] at hctx
  have hair : restoredState (s.store.get l).state ≠ .airHold := by
    cases (s.store.get l).state <;> exact nofun
  have hstate := restoredState_eq_idle_iff (s.store.get l).state
  rw [restoredLine_eq]
  refine ⟨?_, iff_of_true rfl hair, nofun, nofun, ?_⟩
  · show (if _ then _ else _) = none ↔ restoredState _ = .idle
    rw [hstate, ← hctx]
    split
    · exact Option.map_eq_none_iff
    · exact Iff.rfl
  · show (if _ then none else some _) = none ↔ restoredState _ = .idle
    rw [hstate]
    split
    · next hi => exact iff_of_true rfl hi
    · next hi => exact iff_of_false nofun hi

/-- A line that holds a delivery keeps its reservations at power-on, and one in IDLE has none (R134). -/
theorem heldBy_namedReservations {s : State} (l : LineId) (hnames : namesReservation (s.store.get l) = false →
    heldBy s.journal (.line l) = []) :
    (namedReservations s).filter (fun r => decide (r.holder = .line l)) = heldBy s.journal (.line l) := by
  rw [namedReservations, List.filter_filter]
  cases hn : namesReservation (s.store.get l) with
  | true =>
    refine List.filter_congr fun r _ => ?_
    by_cases hr : r.holder = .line l
    · simp [hr, hn]
    · simp [hr]
  | false =>
    rw [hnames hn]
    refine List.filter_eq_nil_iff.mpr fun r _ => ?_
    by_cases hr : r.holder = .line l
    · simp [hr, hn]
    · simp [hr]

theorem namedReservations_calibration (s : State) :
    (namedReservations s).filter (fun r => decide (r.holder = .calibration)) = [] := by
  rw [namedReservations, List.filter_filter]
  refine List.filter_eq_nil_iff.mpr fun r _ => ?_
  by_cases hr : r.holder = .calibration
  · simp [hr]
  · simp [hr]

/-- The part once the newest CALIBRATION record is checked (R196 steps 1 to 4). -/
def checkedPart (keep : Bool) (s : State) : State := checkNewestCalibration (repairJournal (restoreVolatile keep s))

theorem checkedPart_checked (keep : Bool) (s : State) :
    Checked (repairJournal (restoreVolatile keep s)) (checkedPart keep s) := checked_checkNewestCalibration _

theorem restore_eq (keep : Bool) (s : State) : restore keep s = requestRewrites (restoreLock (checkedPart keep s)) := rfl

theorem restoreVolatile_line (keep : Bool) (s : State) (l : LineId) :
    (restoreVolatile keep s).line.get l = restoredLine s l := by
  cases l <;> rfl

theorem checkedPart_reservations (keep : Bool) (s : State) :
    (checkedPart keep s).journal.reservations = namedReservations s :=
  (checkedPart_checked keep s).reservations.trans (restoredPart_reservations keep s)

theorem checkedPart_lineState (keep : Bool) (s : State) (l : LineId) :
    (checkedPart keep s).lineState l = restoredState (s.store.get l).state :=
  ((restoreKeeps_checkNewestCalibration _).lineState l).trans
    (congrArg (fun ln : Line => ln.kept.state) (restoreVolatile_line keep s l))

theorem checkedPart_inFlight (keep : Bool) (s : State) : (checkedPart keep s).port.inFlight = none :=
  congrArg (·.inFlight) (restoreKeeps_checkNewestCalibration (repairJournal (restoreVolatile keep s))).port

theorem restore_journal (keep : Bool) (s : State) :
    (restore keep s).journal = { (checkedPart keep s).journal with queue := (restore keep s).journal.queue } := by
  rw [restore_eq, requestRewrites_eq]
  rfl

section
variable {s : State} (h : JournalOrder s) (hstore : StoreAgrees s)
include h hstore

theorem checkedPart_heldBy (keep : Bool) (l : LineId) :
    heldBy (restoreLock (checkedPart keep s)).journal (.line l) = heldBy s.journal (.line l) := by
  have hget : s.store.get l = (s.line.get l).kept := by rw [hstore]; cases l <;> rfl
  have hheld : heldBy (restoreLock (checkedPart keep s)).journal (.line l) =
      (namedReservations s).filter fun r => decide (r.holder = .line l) :=
    congrArg (List.filter _) (checkedPart_reservations keep s)
  rw [hheld, heldBy_namedReservations l]
  intro hn
  obtain ⟨hctx, -⟩ := h.lines l
  obtain ⟨hlen, -⟩ := h.serves l
  have hidle : s.lineState l = .idle := by
    by_contra hne
    have hne : (s.line.get l).kept.state ≠ .idle := hne
    have hsome : (s.line.get l).kept.ctx.isSome = true := Option.isSome_iff_ne_none.mpr fun e => hne (hctx.mp e)
    simp [hget, namesReservation, hne, hsome] at hn
  rw [if_pos hidle] at hlen
  exact List.length_eq_zero_iff.mp hlen

theorem restore_heldBy (keep : Bool) (l : LineId) :
    heldBy (restore keep s).journal (.line l) = heldBy s.journal (.line l) := by
  rw [restore_journal]
  exact checkedPart_heldBy h hstore keep l

theorem restore_writesOf (keep : Bool) (l : LineId) :
    (writesOf (restore keep s).journal (.line l)).length = if (s.lineState l) = .closing then 1 else 0 := by
  have hget : s.store.get l = (s.line.get l).kept := by rw [hstore]; cases l <;> rfl
  have hempty : (restoreLock (checkedPart keep s)).journal.queue = [] := (checkedPart_checked keep s).queue
  have hstate : (restoreLock (checkedPart keep s)).lineState l = .closing ↔ s.lineState l = .closing := by
    show (checkedPart keep s).lineState l = .closing ↔ _
    rw [checkedPart_lineState, restoredState_eq_closing_iff, hget]
    exact Iff.rfl
  have hheld : heldBy (restoreLock (checkedPart keep s)).journal (.line l) = heldBy s.journal (.line l) :=
    checkedPart_heldBy h hstore keep l
  obtain ⟨hlen, -, hnumbered⟩ := h.serves l
  rw [restore_eq, writesOf_requestRewrites hempty]
  refine (rewriteRequest_length (fun hc => ?_) (fun hc => ?_) fun r hr => ?_).trans (if_congr hstate rfl rfl)
  · obtain ⟨hctx, -⟩ := restoredLine_lawful hget (h.lines l)
    show (checkedPart keep s).ctx l ≠ none
    rw [(checkedPart_checked keep s).ctx]
    show ((restoreVolatile keep s).line.get l).kept.ctx ≠ none
    rw [restoreVolatile_line]
    refine fun e => ?_
    have hidle : (checkedPart keep s).lineState l = .idle := (checkedPart_lineState keep s l).trans (hctx.mp e)
    exact nomatch hidle.symm.trans hc
  · rw [hheld, hlen, hstate.mp hc]
    rfl
  · rw [hstate]
    exact hnumbered r (hheld ▸ hr)

theorem restore_journalOrder (keep : Bool) : JournalOrder (restore keep s) := by
  have hc := checkedPart_checked keep s
  have hcalibration : heldBy (restore keep s).journal .calibration = [] := by
    rw [restore_journal, heldBy, checkedPart_reservations]
    exact namedReservations_calibration s
  have hnowrite : writesOf (restore keep s).journal .calibration = [] := by
    rw [restore_eq]
    exact writesOf_requestRewrites (show (restoreLock _).journal.queue = [] from hc.queue) .calibration
  have hget : ∀ l, s.store.get l = (s.line.get l).kept := fun l => by rw [hstore]; cases l <;> rfl
  have hstate : ∀ l, (restore keep s).lineState l = restoredState (s.lineState l) := fun l => by
    rw [restore_lineState, hget]
    rfl
  constructor
  · intro l
    rw [restore_eq, requestRewrites_eq]
    refine (hc.moves l).lawful ?_
    show ((restoreVolatile keep s).line.get l).lawful
    rw [restoreVolatile_line]
    exact restoredLine_lawful (hget l) (h.lines l)
  · rw [restore_journal]
    show (checkedPart keep s).journal.records.length + (checkedPart keep s).journal.reservations.length ≤ 1024
    rw [checkedPart_reservations]
    exact (Nat.add_le_add hc.records.length_le (List.length_filter_le ..)).trans h.places
  · intro l
    obtain ⟨hlen, -, hnumbered⟩ := h.serves l
    have hidle := restoredState_eq_idle_iff (s.lineState l)
    have hclosing := restoredState_eq_closing_iff (s.lineState l)
    refine ⟨?_, ?_, ?_⟩
    · rw [restore_heldBy h hstore, hlen, hstate]
      exact if_congr hidle.symm rfl rfl
    · rw [restore_writesOf h hstore, hstate]
      exact if_congr hclosing.symm rfl rfl
    · rw [restore_heldBy h hstore, hstate, hclosing]
      exact hnumbered
  · simp [hcalibration]
  · simp [hcalibration, hnowrite]
  · refine fun _ => iff_of_false (by simp [hcalibration]) ?_
    rw [restore_eq, requestRewrites_eq]
    show ¬(checkedPart keep s).port.inFlight.isSome = true
    simp [checkedPart_inFlight]
  · rw [restore_eq, requestRewrites_eq]
    intro w hw
    have hw : w ∈ (checkedPart keep s).journal.queue ++ _ ++ _ := hw
    have hempty : (checkedPart keep s).journal.queue = [] := hc.queue
    rw [hempty, List.nil_append] at hw
    rcases List.mem_append.mp hw with hw | hw
    · exact (holder_of_mem_rewriteRequest hw).2 _
    · exact (holder_of_mem_rewriteRequest hw).2 _

omit h hstore in
/-- Holdup entered at power-on leaves the journal alone (R112, R194). -/
theorem quiet_heldUp (s : State) : Quiet s (heldUp s) := { Quiet.refl s with }

omit h hstore in
theorem quiet_runPowerOn (keep : Bool) (s : State) : Quiet (restore keep s) (runPowerOn keep s) := by
  rw [runPowerOn_eq]
  exact ite_quiet (quiet_heldUp _) (.refl _)

theorem runPowerOn_journalOrder (keep : Bool) : JournalOrder (runPowerOn keep s) :=
  (quiet_runPowerOn keep s).journalOrder (restore_journalOrder h hstore keep)

end

/-! ### Every step -/

/-- Every command keeps the journal in order. -/
theorem JournalStep.journalOrder {i : Instr} {s t : State} (hstep : JournalStep i s t) (hstore : StoreAgrees s)
    (h : JournalOrder s) : JournalOrder t := by
  induction hstep with
  | rests => exact h
  | followed _ hq ih => exact hq.journalOrder ih
  | opens l d orders hidle hroom => exact openDelivery_journalOrder h hidle hroom orders
  | disarms l d harmed => exact undoArm_journalOrder h harmed d
  | ends l d hd hholds => exact endLine_journalOrder h hd hholds
  | releases n => exact h.of_records (List.length_map ..).le
  | accepts item old new f hon hflight hroom => exact acceptCalibration_journalOrder h hon hflight hroom item old new
  | spends => exact { h with }
  | completes w rest _ hqueue => exact completed_journalOrder h hqueue
  | completesAndPowersOn w rest _ hqueue _ =>
    exact runPowerOn_journalOrder (s := { completed w rest s with store := copies (completed w rest s) })
      { completed_journalOrder h hqueue with } rfl false
  | powersOn keep q hq hagrees _ => exact runPowerOn_journalOrder (hq.journalOrder h) (hagrees hstore) keep
  | losesSupply between => exact loseSupply_journalOrder h between
  | damages n left _ => exact h.of_records (List.length_map ..).le

/-- A step is a quiet one, or runs the command at the front of the queue. -/
theorem step_cases {s t : State} (hs : step s = .next t) :
    (s.pending = [] ∧ Quiet s t) ∨
      ∃ i rest, s.pending = i :: rest ∧ JournalStep i { s with pending := rest } t := by
  unfold step at hs
  split at hs
  · next hp =>
    injection hs with hs
    exact .inl ⟨hp, hs ▸ idle_quiet s⟩
  · next i rest hp => exact .inr ⟨i, rest, hp, exec_journalStep hs⟩

theorem step_eventCountLaw {s t : State} (h : EventCountLaw s) (hs : step s = .next t) : EventCountLaw t := by
  obtain ⟨hstore, horder⟩ := (eventCountLaw_iff s).mp h
  refine (eventCountLaw_iff t).mpr ⟨step_storeAgrees hstore hs, ?_⟩
  obtain ⟨-, hq⟩ | ⟨i, rest, -, hj⟩ := step_cases hs
  · exact hq.journalOrder horder
  · exact hj.journalOrder hstore { horder with }

end Sys2Proof.Machine

namespace Sys2Proof.Machine

/-! ### The event count and the records that bear it (R128, R135, R142) -/

/-- No intact CALIBRATION record bears more than `n`: the clause of `RecordCountLaw` on the records. -/
def Journal.bearsAtMost (n : Nat) (j : Journal) : Prop :=
  ∀ r ∈ j.records, r.kind = .calibration → r.intact = true → ∀ c, calibrationOf r.contents = some c → c.newCount ≤ n

theorem recordCountLaw_iff (s : State) :
    RecordCountLaw s ↔ EventCountLaw s ∧ s.journal.bearsAtMost (s.cal.eventCount + 1) := Iff.rfl

theorem Journal.bearsAtMost.of_subset {n : Nat} {j k : Journal} (h : j.bearsAtMost n) (hsub : k.records ⊆ j.records) :
    k.bearsAtMost n := fun r hr => h r (hsub hr)

theorem Journal.bearsAtMost.mono {m n : Nat} {j : Journal} (h : j.bearsAtMost m) (hle : m ≤ n) : j.bearsAtMost n :=
  fun r hr hk hi c hc => (h r hr hk hi c hc).trans hle

/-- A release changes no fields and no check value (R131). -/
theorem bearsAtMost_releaseThrough {n : Nat} {j : Journal} (h : j.bearsAtMost n) (q : Nat) :
    (releaseThrough q j).bearsAtMost n := by
  intro r hr
  obtain ⟨x, hx, rfl⟩ := List.mem_map.mp hr
  split
  · exact h x hx
  · exact h x hx

/-- A written record bears what its write bore (R127). -/
theorem bearsAtMost_completeWrite {count : Nat} {j : Journal} {w : JournalWrite} {rest : List JournalWrite}
    (h : j.bearsAtMost (count + 1)) (hfits : w.fits count) : (completeWrite w rest j).bearsAtMost (count + 1) := by
  intro r hr hk hi c hc
  rcases List.mem_append.mp hr with hr | hr
  · exact h r hr hk hi c hc
  · rw [List.mem_singleton.mp hr] at hc
    have hw : w.contents = .calibration c := by
      cases hcontents : w.contents with
      | calibration x => simpa [writtenRecord, hcontents] using hc
      | delivery d => simp [writtenRecord, hcontents] at hc
    exact (hfits.2 c hw).le

/-- A damage that the check value finds leaves no intact record at its number (R128). -/
theorem bearsAtMost_damage {n : Nat} {j : Journal} (h : j.bearsAtMost n) {q : Nat} {left : StoredContents}
    (hfound : ∀ r ∈ j.records, r.sequence = q →
      left.check ≠ Config.checkValue q r.kind (storedBytes r.kind (.changed left.fields))) :
    Journal.bearsAtMost n { j with records := j.records.map (damageRecord q left) } := by
  intro r hr
  obtain ⟨x, hx, rfl⟩ := List.mem_map.mp hr
  unfold damageRecord
  split
  · next hq =>
    intro _ hi
    have hcheck := (intact_iff _).mp hi
    exact absurd (hq ▸ hcheck) (hfound x hx hq)
  · exact h x hx

section
variable {s : State} (h : JournalOrder s)
include h

omit h in
theorem completed_journal (w : JournalWrite) (rest : List JournalWrite) (s : State) :
    (completed w rest s).journal = completeWrite w rest s.journal := by
  unfold completed reportCompletion
  split
  · unfold closeLine
    split
    · rfl
    · rw [enterState_journal]
      split <;> rfl
  · rw [(flightEnds_answerInFlight ..).journal, (completeRecord_applied ..).journal]
  · rfl

theorem bearsAtMost_completed {w : JournalWrite} {rest : List JournalWrite} (hq : s.journal.queue = w :: rest)
    (hb : s.journal.bearsAtMost (s.cal.eventCount + 1)) :
    (completed w rest s).journal.bearsAtMost (s.cal.eventCount + 1) := by
  rw [completed_journal]
  exact bearsAtMost_completeWrite hb (h.queue w (hq ▸ List.mem_cons_self))

omit h in
/-- Power-on rolls a record forward only where an intact CALIBRATION record bears the event count plus 1 (R135). -/
theorem runPowerOn_eventCount (keep : Bool) (s : State) :
    (runPowerOn keep s).cal.eventCount = s.cal.eventCount ∨
      (runPowerOn keep s).cal.eventCount = s.cal.eventCount + 1 ∧
        ∃ n, s.cal.eventCount + 1 ≤ n ∧ ∀ m, s.journal.bearsAtMost m → n ≤ m := by
  have hcal : (runPowerOn keep s).cal = (checkedPart keep s).cal := by
    rw [(quiet_runPowerOn keep s).cal, restore_eq, requestRewrites_eq]
    rfl
  rw [hcal]
  refine (checkedPart_checked keep s).count.imp id fun hcount => ⟨hcount.1, ?_⟩
  obtain ⟨-, r, hr, hk, hi, c, hc, hn⟩ := hcount
  exact ⟨c.newCount, hn.ge, fun m hm => hm r hr hk hi c hc⟩

omit h in
theorem bearsAtMost_runPowerOn {n : Nat} (hb : s.journal.bearsAtMost n) (keep : Bool) :
    (runPowerOn keep s).journal.bearsAtMost n := by
  refine hb.of_subset ?_
  rw [(quiet_runPowerOn keep s).journal, restore_journal]
  exact (checkedPart_checked keep s).records.subset

omit h in
theorem loseSupply_cal (between : Bool) (s : State) : (loseSupply between s).cal = s.cal := by
  unfold loseSupply storeFirstOnly
  (repeat' split) <;> rfl

/-- The event count rises by one at a time (R135, R142). -/
theorem JournalStep.eventCount {i : Instr} {t : State} (hstep : JournalStep i s t)
    (hb : s.journal.bearsAtMost (s.cal.eventCount + 1)) :
    t.cal.eventCount = s.cal.eventCount ∨ t.cal.eventCount = s.cal.eventCount + 1 := by
  induction hstep with
  | rests => exact .inl rfl
  | followed _ hq ih => rwa [hq.cal]
  | opens l d orders => exact .inl (congrArg _ (enterState_cal l .armed _))
  | disarms l d => exact .inl (by rw [undoArm_eq, enterState_cal])
  | ends l d => exact .inl (congrArg _ (enterState_cal l .closing _))
  | releases n => exact .inl rfl
  | accepts item old new f => exact .inl (by rw [acceptCalibration, restartRelock_eq])
  | spends => exact .inl rfl
  | completes w rest _ hqueue => exact completed_eventCount h hqueue
  | completesAndPowersOn w rest _ hqueue _ =>
    have hc := completed_eventCount h hqueue
    have hp := runPowerOn_eventCount false { completed w rest s with store := copies (completed w rest s) }
    obtain hp | ⟨hp, n, hn, hm⟩ := hp
    · rwa [hp]
    · have hle : n ≤ s.cal.eventCount + 1 := hm _ (bearsAtMost_completed h hqueue hb)
      have hn : (completed w rest s).cal.eventCount + 1 ≤ n := hn
      rw [hp]
      show (completed w rest s).cal.eventCount + 1 = _ ∨ (completed w rest s).cal.eventCount + 1 = _
      omega
  | powersOn keep q hq _ _ =>
    rw [← hq.cal]
    exact (runPowerOn_eventCount keep q).imp id And.left
  | losesSupply between => exact .inl (congrArg _ (loseSupply_cal between s))
  | damages n left _ => exact .inl rfl

/-- While every damage is one that the check value finds, the records stay within reach of the event count (R128). -/
theorem JournalStep.bearsAtMost {i : Instr} {t : State} (hstep : JournalStep i s t)
    (hfound : ∀ n left, i = .storageMediumFailure n left → ∀ r ∈ s.journal.records, r.sequence = n →
      left.check ≠ Config.checkValue n r.kind (storedBytes r.kind (.changed left.fields)))
    (hb : s.journal.bearsAtMost (s.cal.eventCount + 1)) : t.journal.bearsAtMost (s.cal.eventCount + 1) := by
  have hreserve : ∀ x k, (reserve x k s.journal).bearsAtMost (s.cal.eventCount + 1) := fun x k =>
    hb.of_subset (reserve_records_sublist s.journal x k).subset
  induction hstep with
  | rests => exact hb
  | followed _ hq ih => rwa [hq.journal]
  | opens l d orders =>
    rw [openDelivery, enterState_journal]
    exact hreserve _ _
  | disarms l d =>
    rw [undoArm_eq, enterState_journal]
    exact hb
  | ends l d =>
    rw [endLine, enterState_journal]
    exact hb
  | releases n => exact bearsAtMost_releaseThrough hb n
  | accepts item old new f =>
    rw [acceptCalibration, restartRelock_eq]
    exact hreserve .calibration .calibration
  | spends => exact hb
  | completes w rest _ hqueue => exact bearsAtMost_completed h hqueue hb
  | completesAndPowersOn w rest _ hqueue _ =>
    exact bearsAtMost_runPowerOn (s := { completed w rest s with store := copies (completed w rest s) })
      (bearsAtMost_completed h hqueue hb) false
  | powersOn keep q hq _ _ =>
    rw [← hq.journal] at hb
    exact bearsAtMost_runPowerOn hb keep
  | losesSupply between =>
    unfold loseSupply storeFirstOnly
    split
    · split
      · split
        · exact hb
        · next w rest hq =>
          split
          · exact bearsAtMost_completeWrite hb (h.queue w (hq ▸ List.mem_cons_self))
          · exact hb
      · exact hb
    · exact hb
  | damages n left hi => exact bearsAtMost_damage hb (hfound n left hi)

end

theorem step_eventCount {s t : State} (h : RecordCountLaw s) (hs : step s = .next t) :
    t.cal.eventCount = s.cal.eventCount ∨ t.cal.eventCount = s.cal.eventCount + 1 := by
  obtain ⟨hlaw, hb⟩ := (recordCountLaw_iff s).mp h
  obtain ⟨-, horder⟩ := (eventCountLaw_iff s).mp hlaw
  obtain ⟨-, hq⟩ | ⟨i, rest, -, hj⟩ := step_cases hs
  · exact .inl (congrArg _ hq.cal)
  · have hfront : JournalOrder { s with pending := rest } := { horder with }
    exact hj.eventCount hfront hb

theorem step_recordCountLaw {s t : State} (h : RecordCountLaw s) (hfound : DamageIsFound s) (hs : step s = .next t) :
    RecordCountLaw t := by
  obtain ⟨hlaw, hb⟩ := (recordCountLaw_iff s).mp h
  obtain ⟨-, horder⟩ := (eventCountLaw_iff s).mp hlaw
  refine (recordCountLaw_iff t).mpr ⟨step_eventCountLaw hlaw hs, ?_⟩
  have hrecords : t.journal.bearsAtMost (s.cal.eventCount + 1) := by
    obtain ⟨-, hq⟩ | ⟨i, rest, hp, hj⟩ := step_cases hs
    · rwa [hq.journal]
    · have hfront : JournalOrder { s with pending := rest } := { horder with }
      exact hj.bearsAtMost hfront (fun n left hi => hfound n left rest (hi ▸ hp)) hb
  refine hrecords.mono ?_
  have := step_eventCount h hs
  omega

/-- Settles O59: a step does one act on the journal, and each act keeps its order and the count of its records. -/
theorem stepKeepsJournalAndEventCount : Obligations.StepKeepsJournalAndEventCount := by
  unfold Obligations.StepKeepsJournalAndEventCount
  exact ⟨fun _ _ => step_eventCountLaw, fun _ _ => step_eventCount, fun _ _ => step_recordCountLaw⟩

/-! ### Numbers and attempts (R118, R120, R153) -/

/-- The newest numbers do not fall from `j` to `k`. -/
structure Journal.NumbersRise (j k : Journal) : Prop where
  seq : j.newestSeq ≤ k.newestSeq
  written : j.newestWritten ≤ k.newestWritten
  ticket : j.newestTicket ≤ k.newestTicket

theorem Journal.NumbersRise.refl (j : Journal) : j.NumbersRise j := ⟨le_rfl, le_rfl, le_rfl⟩

theorem Journal.NumbersRise.trans {i j k : Journal} (h : i.NumbersRise j) (h' : j.NumbersRise k) : i.NumbersRise k :=
  ⟨h.seq.trans h'.seq, h.written.trans h'.written, h.ticket.trans h'.ticket⟩

theorem numbersRise_completeWrite (w : JournalWrite) (rest : List JournalWrite) (j : Journal) :
    j.NumbersRise (completeWrite w rest j) := ⟨le_rfl, le_max_left _ _, le_rfl⟩

theorem numbersRise_runPowerOn (keep : Bool) (s : State) : s.journal.NumbersRise (runPowerOn keep s).journal := by
  have hc := checkedPart_checked keep s
  rw [(quiet_runPowerOn keep s).journal, restore_journal]
  exact ⟨hc.newestSeq.ge, hc.newestWritten.ge, hc.newestTicket.ge⟩

theorem JournalStep.numbersRise {i : Instr} {s t : State} (hstep : JournalStep i s t) :
    s.journal.NumbersRise t.journal := by
  induction hstep with
  | rests => exact .refl _
  | followed _ hq ih => rwa [hq.journal]
  | opens l d orders =>
    rw [openDelivery, enterState_journal]
    exact ⟨(reserve_newestSeq ..).ge, (reserve_newestWritten ..).ge, (reserve_newestTicket ..).ge⟩
  | disarms l d =>
    rw [undoArm_eq, enterState_journal]
    exact ⟨le_rfl, le_rfl, le_rfl⟩
  | ends l d =>
    rw [endLine, enterState_journal]
    refine ⟨Nat.le_succ _, le_rfl, ?_⟩
    show _ ≤ endTicket s d
    unfold endTicket
    split
    · exact Nat.le_succ _
    · exact le_rfl
  | releases n => exact ⟨le_rfl, le_rfl, le_rfl⟩
  | accepts item old new f =>
    rw [acceptCalibration, restartRelock_eq]
    exact ⟨(reserve_newestSeq s.journal .calibration .calibration).ge.trans (Nat.le_succ _),
      (reserve_newestWritten s.journal .calibration .calibration).ge,
      (reserve_newestTicket s.journal .calibration .calibration).ge⟩
  | spends => exact ⟨le_rfl, le_rfl, le_rfl⟩
  | completes w rest => exact completed_journal w rest s ▸ numbersRise_completeWrite w rest s.journal
  | completesAndPowersOn w rest =>
    have hp := numbersRise_runPowerOn false { completed w rest s with store := copies (completed w rest s) }
    exact (completed_journal w rest s ▸ numbersRise_completeWrite w rest s.journal).trans hp
  | powersOn keep q hq => exact hq.journal ▸ numbersRise_runPowerOn keep q
  | losesSupply between =>
    unfold loseSupply storeFirstOnly
    split
    · split
      · split
        · exact ⟨le_rfl, le_rfl, le_rfl⟩
        · split
          · exact numbersRise_completeWrite ..
          · exact ⟨le_rfl, le_rfl, le_rfl⟩
      · exact ⟨le_rfl, le_rfl, le_rfl⟩
    · exact ⟨le_rfl, le_rfl, le_rfl⟩
  | damages n left => exact ⟨le_rfl, le_rfl, le_rfl⟩

theorem applyRecord_attempts (level : Bool) (r : CalibrationRecord) (s : State) :
    (applyRecord level r s).lock.attempts = s.lock.attempts := by
  unfold applyRecord
  dsimp only
  split
  · next sel _ => exact congrArg (·.attempts) (itemEffect_lock sel { s with cal := setItem s.cal sel r.newValue })
  · exact takeStaged_attempts ..
  · rfl

theorem completed_attempts (w : JournalWrite) (rest : List JournalWrite) (s : State) :
    (completed w rest s).lock.attempts = s.lock.attempts := by
  unfold completed reportCompletion
  split
  · unfold closeLine
    split
    · rfl
    · rw [enterState_lock]
      split <;> rfl
  · rw [(flightEnds_answerInFlight ..).attempts, completeRecord, applyRecord_attempts]
  · rfl

/-- The attempts rise only at a power-on, which leaves 5 (R153, R196). -/
theorem JournalStep.attempts {i : Instr} {s t : State} (hstep : JournalStep i s t) :
    t.lock.attempts ≤ s.lock.attempts ∨ t.lock.attempts = 5 ∧ PowerOnCause i s := by
  have hfive : ∀ keep q, (runPowerOn keep q).lock.attempts = 5 := fun keep q => (runPowerOn_volatile keep q).1
  induction hstep with
  | rests => exact .inl le_rfl
  | followed _ hq ih => rwa [hq.attempts]
  | opens l d orders => exact .inl (by rw [openDelivery, enterState_lock]; exact le_rfl)
  | disarms l d => exact .inl (by rw [undoArm_eq, enterState_lock])
  | ends l d => exact .inl (by rw [endLine, enterState_lock]; exact le_rfl)
  | releases n => exact .inl le_rfl
  | accepts item old new f => exact .inl (by rw [acceptCalibration, restartRelock_eq])
  | spends => exact .inl (Nat.sub_le ..)
  | completes w rest => exact .inl (completed_attempts w rest s).le
  | completesAndPowersOn w rest _ _ hcause => exact .inr ⟨hfive _ _, hcause⟩
  | powersOn keep q _ _ hcause => exact .inr ⟨hfive _ _, hcause⟩
  | losesSupply between =>
    refine .inl (le_of_eq ?_)
    unfold loseSupply storeFirstOnly
    (repeat' split) <;> rfl
  | damages n left => exact .inl le_rfl

/-- Settles O60: no act of the journal lowers its numbers, and the attempts rise at power-on alone. -/
theorem numbersNeverFall : Obligations.NumbersNeverFall := by
  unfold Obligations.NumbersNeverFall
  intro c s t he
  have hstep := exec_journalStep he
  obtain ⟨hseq, hwritten, hticket⟩ := hstep.numbersRise
  exact ⟨hseq, hwritten, hticket, hstep.attempts⟩

end Sys2Proof.Machine

namespace Sys2Proof.Machine

/-! ## Reservations and the journal's commands (R119, R120, R128, R129, R131, R132) -/

theorem promisedSequences_eq (j : Journal) :
    promisedSequences j = (j.reservations.filter fun r => r.sequence = none).length := by
  refine congrArg List.length (List.filter_congr fun r _ => ?_)
  cases r.sequence <;> rfl

theorem promisedTickets_eq (j : Journal) :
    promisedTickets j = (j.reservations.filter fun r => r.kind = .delivery ∧ r.sequence = none).length := by
  refine congrArg List.length (List.filter_congr fun r _ => ?_)
  cases r.sequence <;> simp

/-- A reservation is granted where a place is available and the numbers suffice (R119, R120). -/
theorem canReserve_iff (j : Journal) (k : RecordKind) :
    canReserve j k = true ↔
      (j.records.length + j.reservations.length < 1024 ∨ ∃ r ∈ j.records, r.released = true) ∧
        j.newestSeq + (j.reservations.filter fun r => r.sequence = none).length + 1 ≤ 4294967295 ∧
        (k = .delivery →
          j.newestTicket + (j.reservations.filter fun r => r.kind = .delivery ∧ r.sequence = none).length + 1
            ≤ 4294967295) := by
  rw [canReserve, Bool.and_eq_true, placeAvailable_iff, numberingPasses, promisedSequences_eq, promisedTickets_eq,
    Bool.and_eq_true, Bool.or_eq_true, decide_eq_true_eq, decide_eq_true_eq, decide_eq_true_eq, lastNumber,
    ← Decidable.imp_iff_not_or]

theorem mem_evictOldest_iff {j : Journal} {r : JournalRecord} :
    r ∈ (evictOldest j).records ↔
      r ∈ j.records ∧ ¬(r.released = true ∧ ∀ x ∈ j.records, x.released = true → r.sequence ≤ x.sequence) := by
  rw [evictOldest, List.mem_filter]
  refine and_congr_right fun hr => ?_
  rw [Bool.not_eq_true', ← Bool.not_eq_true, Bool.and_eq_true, decide_eq_true_eq, eq_comm (a := some _),
    oldestReleased_eq_some_iff]
  refine not_congr (and_congr_right fun hreleased => and_iff_right ⟨r, hr, hreleased, rfl⟩)

/-- Settles O36: the test of a reservation, and the place that it takes. -/
theorem reservationTakesAPlace : Obligations.ReservationTakesAPlace := by
  unfold Obligations.ReservationTakesAPlace
  intro j h k
  have hrecords := reserve_records j h k
  rw [emptyPlaces, journalPlaces] at hrecords
  refine ⟨canReserve_iff j k, reserve_reservations j h k, fun hroom => ?_, fun hfull r => ?_, reserve_queue j h k,
    reserve_newestSeq j h k, reserve_newestWritten j h k, reserve_newestTicket j h k⟩
  · rw [hrecords, if_pos (by omega)]
  · rw [hrecords, if_neg (by omega)]
    exact mem_evictOldest_iff

end Sys2Proof.Machine

namespace Sys2Proof.Machine

/-! ### RELEASE THROUGH and READ JOURNAL STATE (R131, R132) -/

theorem releasedBy_eq (n : Nat) (j : Journal) :
    releasedBy n j = (j.records.filter fun r => r.released = false ∧ r.sequence ≤ n).length := by
  refine congrArg List.length (List.filter_congr fun r _ => ?_)
  cases r.released <;> simp

theorem unreleasedCount_eq (j : Journal) :
    unreleasedCount j = (j.records.filter fun r => r.released = false).length := by
  refine congrArg List.length (List.filter_congr fun r _ => ?_)
  cases r.released <;> rfl

theorem releaseThrough_of_newer {s : State} {n : Nat} (h : s.journal.newestWritten < n) :
    runCommand (.releaseThrough n) s = (s, plain .parameter) := if_pos h

theorem releaseThrough_of_written {s : State} {n : Nat} (h : n ≤ s.journal.newestWritten) :
    runCommand (.releaseThrough n) s =
      ({ s with journal := releaseThrough n s.journal },
       .reply .ok (b2 (releasedBy n s.journal) ++ b4 s.journal.newestWritten)) := if_neg (Nat.not_lt.mpr h)

/-- Settles O38: RELEASE THROUGH by the newest written number, and READ JOURNAL STATE. -/
theorem releaseAndJournalState : Obligations.ReleaseAndJournalState := by
  unfold Obligations.ReleaseAndJournalState
  intro tag n s hready
  refine ⟨fun hnewer => next_of_plain hready (releaseThrough_of_newer hnewer) tag, fun hwritten => ?_, ?_⟩
  · rw [← releasedBy_eq]
    exact congrArg Host.Outcome.next (takeCommand_of_reply hready (releaseThrough_of_written hwritten) tag)
  · rw [← unreleasedCount_eq]
    exact congrArg Host.Outcome.next (takeCommand_of_reply (c := .readJournalState) hready rfl tag)

end Sys2Proof.Machine

namespace Sys2Proof.Machine

/-! ### READ RECORD: masks and fields (R123, R124, R128, R192) -/

/-- The bytes of a field are the bits of its number, eight by eight from the least. -/
theorem leBytes_toNat {w : Nat} (n : Nat) (v : BitVec w) :
    leBytes n v.toNat = (List.range n).map fun i => v.extractLsb' (8 * i) 8 := by
  have hgen : ∀ m : Nat, leBytes n m = (List.range n).map fun i => BitVec.ofNat 8 (m / 2 ^ (8 * i)) := by
    induction n with
    | zero => exact fun _ => rfl
    | succ k ih =>
      intro m
      have hshift : ∀ i, m / 2 ^ (8 * (i + 1)) = m / 256 / 2 ^ (8 * i) := fun i => by
        rw [Nat.div_div_eq_div_mul, show 256 = 2 ^ 8 from rfl, ← Nat.pow_add, Nat.mul_succ, Nat.add_comm]
      rw [leBytes, ih, List.range_succ_eq_map, List.map_cons, List.map_map]
      simp only [Function.comp_def, Nat.succ_eq_add_one, hshift, Nat.mul_zero, pow_zero, Nat.div_one]
  rw [hgen]
  refine List.map_congr_left fun i _ => ?_
  rw [BitVec.extractLsb', Nat.shiftRight_eq_div_pow]

/-- The bits of the mask of a delivery (R123). -/
theorem recordMask_delivery (d : DeliveryRecord) :
    recordMask (.delivery d) =
      d.ticket.isSome.toNat + 2 * d.order.isSome.toNat + 4 * d.customer.isSome.toNat + 8 * d.startTime.isSome.toNat
        + 16 * d.endTime.isSome.toNat + 32 * d.average.isSome.toNat + 64 * d.price.isSome.toNat
        + 128 * d.amount.isSome.toNat + 256 * d.preset.isSome.toNat + 512 * d.stopCause.isSome.toNat := by
  simp only [recordMask, presence]
  omega

/-- An optional 4-byte field, and an optional signed one: absent, its width filled with 0 (R192). -/
theorem opt4_eq (o : Option Nat) :
    opt4 o = match o with
      | none => b4 0
      | some x => b4 x := by
  cases o <;> rfl

theorem optField_signed (zero : List Byte) (f : Int → List Byte) (o : Option Int) :
    optField zero f o = match o with
      | none => zero
      | some x => f x := by
  cases o <;> rfl

/-- A stop cause's byte (R192; entry 16). -/
theorem optCode_stopCause (o : Option StopCause) :
    optCode StopCause.code o = b1 (match o with
      | none => 0xFF
      | some x => x.code) := by
  cases o <;> rfl

/-- The byte of the credential that unlocked the part, 0 for none (R192). -/
theorem credentialByte (o : Option CredentialKind) :
    (o.map CredentialKind.code).getD 0 = match o with
      | none => 0
      | some k => k.code := by
  cases o <;> rfl

theorem b8_of_lt {n : Nat} (h : n < 256) : b8 n = b1 n ++ List.replicate 7 0 := by
  simp [b8, b1, leBytes, Nat.div_eq_of_lt h]

/-- The bits of a credential or lock value fit its first byte (entry 45). -/
theorem calValueBytes_lock (inspector fleet strict : Bool) :
    calValueBytes (.lock inspector fleet strict) =
      b1 (inspector.toNat + 2 * fleet.toNat + 4 * strict.toNat) ++ List.replicate 7 0 := by
  refine b8_of_lt ?_
  have := inspector.toNat_lt
  have := fleet.toNat_lt
  have := strict.toNat_lt
  omega

theorem calValueBytes_eq (v : CalValue) :
    calValueBytes v = match v with
      | .int x => s8 x
      | .band lower correction used => b2 lower ++ s4 correction ++ yesNo used ++ b1 0
      | .lock inspector fleet strict =>
        b1 (inspector.toNat + 2 * fleet.toNat + 4 * strict.toNat) ++ List.replicate 7 0 := by
  cases v with
  | int x => rfl
  | band lower correction used => rfl
  | lock inspector fleet strict => exact calValueBytes_lock inspector fleet strict

/-! ### READ RECORD: its answers (R128, R129, R180) -/

theorem writePending_iff (j : Journal) (n : Nat) :
    writePending j n = true ↔ ∃ r ∈ j.reservations, r.sequence = some n := by
  simp [writePending]

theorem findRecord_eq_none_iff (j : Journal) (n : Nat) : findRecord j n = none ↔ ∀ r ∈ j.records, r.sequence ≠ n := by
  simp [findRecord]

/-- The only record of its number is the one found (R129). -/
theorem findRecord_of_unique {j : Journal} {n : Nat} {r : JournalRecord} (hr : r ∈ j.records) (hn : r.sequence = n)
    (hunique : ∀ x ∈ j.records, x.sequence = n → x = r) : findRecord j n = some r := by
  cases hf : findRecord j n with
  | none => exact absurd hn ((findRecord_eq_none_iff j n).mp hf r hr)
  | some x =>
    have hx : x.sequence = n := by simpa using List.find?_some hf
    rw [hunique x (List.mem_of_find?_eq_some hf) hx]

section
variable {s : State} {n : Nat}

theorem ownerReadRecord_of_beyond (h : n = 0 ∨ s.journal.newestSeq < n) :
    ownerReadRecord n s = (s, plain .notFound) := if_pos h

theorem ownerReadRecord_of_reserved (hn : ¬(n = 0 ∨ s.journal.newestSeq < n)) (h : writePending s.journal n = true) :
    ownerReadRecord n s = (s, plain .busy) := by
  rw [ownerReadRecord, if_neg hn, if_pos h]

theorem ownerReadRecord_of_missing (hn : ¬(n = 0 ∨ s.journal.newestSeq < n)) (h : writePending s.journal n = false)
    (hfind : findRecord s.journal n = none) : ownerReadRecord n s = (s, plain .notFound) := by
  rw [ownerReadRecord, if_neg hn, if_neg (Bool.eq_false_iff.mp h), hfind]

theorem ownerReadRecord_of_found (hn : ¬(n = 0 ∨ s.journal.newestSeq < n)) (h : writePending s.journal n = false)
    {r : JournalRecord} (hfind : findRecord s.journal n = some r) :
    ownerReadRecord n s = if freePlaces s < 2 then (s, plain .busy) else readOut r s := by
  rw [ownerReadRecord, if_neg hn, if_neg (Bool.eq_false_iff.mp h), hfind]

end

/-- A record's two parts, placed and remembered (R129, R180). -/
theorem takeCommand_of_record {s q : State} {c : Command} {part1 part2 : List Byte} (h : PortReady s)
    (hrun : runCommand c s = (q, .record part1 part2)) (tag : Nat) :
    takeCommand tag c s = settle s
      { q with port := { q.port with
          responses := q.port.responses ++
            [{ frame := responseFrame q.port.address c.code tag .ok part1, performs := performsOf c.code .ok },
             { frame := responseFrame q.port.address c.code tag .ok part2, performs := performsOf c.code .ok }]
          previous := some { code := c.code, status := .answered .ok } } } := by
  rw [takeCommand_of_ready h, hrun]
  simp only [placeAnswer, placeResponse, remember, Answer.status, List.append_assoc, List.cons_append, List.nil_append]

/-- Settles O37: what a record spells, and READ RECORD by where its number stands. -/
theorem readRecordAnswers : Obligations.ReadRecordAnswers := by
  unfold Obligations.ReadRecordAnswers
  refine ⟨fun d => ⟨recordMask_delivery d, ?_, ?_⟩, fun c => ⟨rfl, ?_, ?_, ?_⟩, fun _ _ => ⟨rfl, rfl, rfl⟩,
    fun f => ⟨rfl, fun k hk => ?_, leBytes_toNat 12 f.first, leBytes_toNat 16 f.second⟩, fun _ _ => rfl,
    fun tag n s hready => ⟨fun hn => ?_, fun h0 hle hres => ?_, fun h0 hle hres hnone => ?_,
      fun r hr hn hunique => findRecord_of_unique hr hn hunique,
      fun r h0 hle hres hfind => ⟨fun hfull => ?_, fun hroom => ?_⟩⟩⟩
  · simp only [recordFields1, opt4_eq] <;> rfl
  · simp only [recordFields2, opt4_eq, optField_signed, optCode_stopCause] <;> rfl
  · simp only [recordFields1, opt4_eq, credentialByte]
    rcases c.item with sel | which | _
    · cases sel <;> rfl
    · cases which <;> rfl
    · rfl
  · exact congrArg₂ (· ++ ·) (calValueBytes_eq c.oldValue) (calValueBytes_eq c.newValue)
  · exact calValueBytes_eq
  · have hbytes : fieldBytes k = (24, 51) := by
      cases k with
      | delivery => rfl
      | flush => rfl
      | calibration => exact absurd rfl hk
    rw [storedFields1, storedFields2, hbytes]
    exact ⟨leBytes_toNat 24 f.first, leBytes_toNat 51 f.second⟩
  · exact next_of_plain (c := .readRecord n) hready (ownerReadRecord_of_beyond hn) tag
  · exact next_of_plain (c := .readRecord n) hready
      (ownerReadRecord_of_reserved (by omega) ((writePending_iff _ n).mpr hres)) tag
  · exact next_of_plain (c := .readRecord n) hready (ownerReadRecord_of_missing (by omega)
      (Bool.eq_false_iff.mpr (mt (writePending_iff _ n).mp hres)) ((findRecord_eq_none_iff _ n).mpr hnone)) tag
  · have hrun := ownerReadRecord_of_found (by omega) (Bool.eq_false_iff.mpr (mt (writePending_iff _ n).mp hres)) hfind
    rw [freePlaces_of_ready hready, if_pos (by omega)] at hrun
    exact next_of_plain (c := .readRecord n) hready hrun tag
  · have hrun := ownerReadRecord_of_found (by omega) (Bool.eq_false_iff.mpr (mt (writePending_iff _ n).mp hres)) hfind
    rw [freePlaces_of_ready hready, if_neg (by omega)] at hrun
    exact congrArg Host.Outcome.next (takeCommand_of_record (c := .readRecord n) hready hrun tag)

end Sys2Proof.Machine

namespace Sys2Proof.Machine

/-! ## Calibration-class commands (R125, R145, R146, R156, R157) -/

/-- An accepted calibration-class command is in flight, and remembered so (R146, R178). -/
theorem takeCommand_of_inFlight {s q : State} {c : Command} (h : PortReady s) (hrun : runCommand c s = (q, .inFlight))
    (tag : Nat) : takeCommand tag c s = settle s (inFlightOf c.code tag q) := by
  rw [takeCommand_of_ready h, hrun]
  rfl

/-- The relock timer of an unlocked part starts again, and rests where the part is open (R154). -/
theorem relocked_of_not_locked {s : State} (h : s.lock.state ≠ .locked) :
    relocked s = if s.lock.state = .opened then s.lock.relock else some (s.now + 900000000) := by
  unfold relocked
  cases hl : s.lock.state with
  | opened => rfl
  | locked => exact absurd hl h
  | unlocked c => rfl

theorem unlockingCredential_eq (st : LockState) :
    unlockingCredential st = match st with
      | .unlocked who => some who
      | _ => none := by
  cases st <;> rfl

/-- The record of an accepted calibration-class command (R124, R146). -/
def acceptedRecord (s : State) (item : RecordItem) (old new : CalValue) : CalibrationRecord :=
  { newCount := s.cal.eventCount + 1, time := if s.clock.isSet then some s.clock.count else none, item := item,
    oldValue := old, newValue := new,
    credential := match s.lock.state with
      | .unlocked who => some who
      | _ => none }

/-- An accepted calibration-class command takes a place and the next number, joins the tail of the write queue, and starts
the relock timer again (R125, R146, R154). -/
theorem acceptCalibration_eq {s : State} (h : s.lock.state ≠ .locked) (item : RecordItem) (old new : CalValue) :
    acceptCalibration item old new s =
      { s with
        journal := { reserve .calibration .calibration s.journal with
          newestSeq := s.journal.newestSeq + 1
          reservations := (reserve .calibration .calibration s.journal).reservations.map fun r =>
            if r.holder = .calibration then { r with sequence := some (s.journal.newestSeq + 1) } else r
          queue := s.journal.queue ++
            [{ holder := .calibration, sequence := s.journal.newestSeq + 1,
               contents := .calibration (acceptedRecord s item old new) }] }
        lock := { s.lock with
          relock := if s.lock.state = .opened then s.lock.relock else some (s.now + 900000000) } } := by
  have hr : ∀ j : Journal, relocked { s with journal := j } = _ := fun j =>
    relocked_of_not_locked (s := { s with journal := j }) h
  rw [acceptCalibration, restartRelock_eq, hr, requestWrite, reserve_newestSeq, reserve_queue, unlockingCredential_eq]
  rfl

/-! ### WRITE CALIBRATION ITEM (R145) -/

/-- The new value that a write carries for an item (R146, R192). -/
theorem carriedValue_eq (sel : ItemSel) (value : BitVec 64) :
    carriedValue sel value = match sel with
      | .band _ _ => .band (value.extractLsb' 0 16).toNat (value.extractLsb' 16 32).toInt true
      | _ => .int value.toInt := by
  cases sel <;> rfl

/-- A write is fresh right after an answered READ CALIBRATION IDENTITY, with the event count that this gave (R145). -/
theorem fresh_iff (s : State) (quoted : Nat) :
    (identityJustRead s && decide (quoted = s.cal.eventCount)) = true ↔
      s.port.previous = some { code := 0x40, status := .answered .ok } ∧ quoted = s.cal.eventCount := by
  simp [identityJustRead]

section
variable {s : State} {quoted scope kind band : Nat} {value : BitVec 64}

/-- A write past the checks on the part, whose selector names no item (R145). -/
theorem ownerWriteCalibrationItem_of_unnamed (hfrozen : s.lock.frozen = false) (hlocked : s.lock.state ≠ .locked)
    (hfresh : (identityJustRead s && decide (quoted = s.cal.eventCount)) = true) (hidle : bothIdle s = true)
    (hsel : selectorOf scope kind band = none) :
    ownerWriteCalibrationItem quoted scope kind band value s = refuseWrite s .parameter := by
  rw [ownerWriteCalibrationItem, hfrozen, if_neg Bool.false_ne_true, if_neg hlocked, hfresh, hidle, Bool.not_true,
    if_neg Bool.false_ne_true, if_neg Bool.false_ne_true, hsel]

/-- A write past the checks on the part, for an item (R145, R146). -/
theorem ownerWriteCalibrationItem_of_item (hfrozen : s.lock.frozen = false) (hlocked : s.lock.state ≠ .locked)
    (hfresh : (identityJustRead s && decide (quoted = s.cal.eventCount)) = true) (hidle : bothIdle s = true)
    {sel : ItemSel} (hsel : selectorOf scope kind band = some sel) :
    ownerWriteCalibrationItem quoted scope kind band value s =
      if itemFits s.cal sel (carriedValue sel value) = false then refuseWrite s .parameter
      else if canReserve s.journal .calibration = false then refuseWrite s .journalFull
      else (acceptCalibration (.item sel) (itemValue s.cal sel) (carriedValue sel value) s, .inFlight) := by
  rw [ownerWriteCalibrationItem, hfrozen, if_neg Bool.false_ne_true, if_neg hlocked, hfresh, hidle, Bool.not_true,
    if_neg Bool.false_ne_true, if_neg Bool.false_ne_true, hsel]
  simp only [Bool.not_eq_true']

end

/-- Settles O41: the checks of WRITE CALIBRATION ITEM in their order, and what an accepted write queues. -/
theorem writeCalibrationItemChecks : Obligations.WriteCalibrationItemChecks := by
  unfold Obligations.WriteCalibrationItemChecks
  intro tag quoted scope kind band value s hready
  have hrefused : ∀ st, ownerWriteCalibrationItem quoted scope kind band value s = refuseWrite s st →
      exec (.writeCalibrationItem tag quoted scope kind band value) s =
        .next (settle s (replied 0x42 tag st (b4 s.cal.eventCount) s)) := fun st hrun =>
    congrArg Host.Outcome.next
      (takeCommand_of_reply (c := .writeCalibrationItem quoted scope kind band value) hready hrun tag)
  refine ⟨fun hfrozen => hrefused _ (if_pos hfrozen), fun hfrozen => ⟨fun hlocked => hrefused _ ?_, fun hlocked =>
    ⟨fun hstale => hrefused _ ?_, fun hfresh hbusy => hrefused _ ?_, fun hfresh hidle => ?_⟩⟩⟩
  · rw [ownerWriteCalibrationItem, hfrozen, if_neg Bool.false_ne_true, if_pos hlocked]
  · rw [ownerWriteCalibrationItem, hfrozen, if_neg Bool.false_ne_true, if_neg hlocked,
      Bool.eq_false_iff.mpr (mt (fresh_iff s quoted).mp hstale)]
    rfl
  · rw [ownerWriteCalibrationItem, hfrozen, if_neg Bool.false_ne_true, if_neg hlocked, (fresh_iff s quoted).mpr hfresh,
      Bool.eq_false_iff.mpr (mt (bothIdle_iff s).mp hbusy)]
    rfl
  · have hfresh := (fresh_iff s quoted).mpr hfresh
    have hidle := (bothIdle_iff s).mpr hidle
    refine ⟨fun hnone => hrefused _ (ownerWriteCalibrationItem_of_unnamed hfrozen hlocked hfresh hidle hnone),
      fun sel hsel => ?_⟩
    have hopen := ownerWriteCalibrationItem_of_item (value := value) hfrozen hlocked hfresh hidle hsel
    intro new
    have hnew : carriedValue sel value = new := carriedValue_eq sel value
    rw [hnew] at hopen
    clear_value new
    refine ⟨fun hfit => hrefused _ (hopen.trans (if_pos hfit)), fun hfit hfull => hrefused _ ?_, fun hfit hroom => ?_⟩
    · rw [hopen, hfit, if_neg Bool.false_ne_true.symm, if_pos hfull]
    · rw [hfit, hroom, if_neg Bool.false_ne_true.symm, if_neg Bool.false_ne_true.symm,
        acceptCalibration_eq hlocked] at hopen
      exact congrArg Host.Outcome.next
        (takeCommand_of_inFlight (c := .writeCalibrationItem quoted scope kind band value) hready hopen tag)

/-! ### SET CREDENTIAL and REMOVE LOCK (R156, R157) -/

section
variable {s : State} {kind level : Nat} {value : BitVec 128}

/-- SET CREDENTIAL past the checks on the lock, of a kind that names no credential (R156). -/
theorem ownerSetCredential_of_unnamed (hfrozen : s.lock.frozen = false) (hattempts : s.lock.attempts ≠ 0)
    (hlocked : s.lock.state ≠ .locked) (hcode : CredentialKind.ofCode kind = none) :
    ownerSetCredential kind value level s = (s, plain .parameter) := by
  rw [ownerSetCredential, hfrozen, if_neg Bool.false_ne_true, if_neg hattempts, if_neg hlocked, hcode,
    if_neg fun h => nomatch h.2]

/-- SET CREDENTIAL of a credential that the lock lets be set (R156). -/
theorem ownerSetCredential_of_code {which : CredentialKind} (hfrozen : s.lock.frozen = false)
    (hattempts : s.lock.attempts ≠ 0) (hlocked : s.lock.state ≠ .locked) (hcode : CredentialKind.ofCode kind = some which)
    (hlevel : s.lock.state = .unlocked .fleet → which ≠ .inspector) :
    ownerSetCredential kind value level s =
      if which = .inspector ∧ 1 < level then (s, plain .parameter)
      else if canReserve s.journal .calibration = false then (s, plain .journalFull)
      else
        let s' := acceptCalibration (.credential which) (lockValue s.lock) (setCredentialValue s.lock which level) s
        ({ s' with lock := { s'.lock with staged := some { which := which, value := value } } }, .inFlight) := by
  rw [ownerSetCredential, hfrozen, if_neg Bool.false_ne_true, if_neg hattempts, if_neg hlocked, hcode,
    if_neg fun h => hlevel h.1 (Option.some.inj h.2)]
  simp only [Bool.not_eq_true']

/-- REMOVE LOCK past the checks on the lock (R157). -/
theorem ownerRemoveLock_of_open (hfrozen : s.lock.frozen = false) (hattempts : s.lock.attempts ≠ 0)
    (hinspector : s.lock.state = .unlocked .inspector) :
    ownerRemoveLock s =
      if canReserve s.journal .calibration = false then (s, plain .journalFull)
      else (acceptCalibration .lock (lockValue s.lock) (.lock false false false) s, .inFlight) := by
  rw [ownerRemoveLock, hfrozen, if_neg Bool.false_ne_true, if_neg hattempts, if_neg (not_not.mpr hinspector)]
  simp only [Bool.not_eq_true']

end

/-- Settles O43: the checks of SET CREDENTIAL and REMOVE LOCK in their order, and what an accepted one queues. -/
theorem credentialCommandsChecks : Obligations.CredentialCommandsChecks := by
  unfold Obligations.CredentialCommandsChecks
  intro tag kind level value s hready sets removes setRefused removeRefused lk record j sequence queued relock accepted
    room
  have hset : ∀ st, ownerSetCredential kind value level s = (s, plain st) → setRefused st := fun st hrun =>
    next_of_plain (c := .setCredential kind value level) hready hrun tag
  have hremove : ∀ st, ownerRemoveLock s = (s, plain st) → removeRefused st := fun st hrun =>
    next_of_plain (c := .removeLock) hready hrun tag
  have hcode := credentialOfCode_eq kind
  refine ⟨fun hfrozen => ⟨hset _ (if_pos hfrozen), hremove _ (if_pos hfrozen)⟩, fun hfrozen hattempts =>
    ⟨hset _ ?_, hremove _ ?_⟩, fun hfrozen hattempts => ⟨fun hlocked => hset _ ?_, fun hfleet hkind => hset _ ?_,
      fun hlocked h1 h2 => hset _ ?_, fun hlocked hfleet hkind => ?_, fun hlocked hkind => ?_,
      fun hinspector => hremove _ ?_, fun hinspector hfull => hremove _ ?_, fun hinspector hroom => ?_⟩⟩
  · rw [ownerSetCredential, hfrozen, if_neg Bool.false_ne_true, if_pos hattempts]
  · rw [ownerRemoveLock, hfrozen, if_neg Bool.false_ne_true, if_pos hattempts]
  · rw [ownerSetCredential, hfrozen, if_neg Bool.false_ne_true, if_neg hattempts, if_pos hlocked]
  · have hlocked : s.lock.state ≠ .locked := fun e => nomatch hfleet.symm.trans e
    rw [ownerSetCredential, hfrozen, if_neg Bool.false_ne_true, if_neg hattempts, if_neg hlocked,
      if_pos ⟨hfleet, by rw [hkind]; rfl⟩]
  · rw [if_neg h1, if_neg h2] at hcode
    exact ownerSetCredential_of_unnamed hfrozen hattempts hlocked hcode
  · rw [if_neg (by omega), if_pos hkind] at hcode
    have hopen := ownerSetCredential_of_code (level := level) (value := value) hfrozen hattempts hlocked hcode
      fun h => absurd h hfleet
    rw [acceptCalibration_eq hlocked] at hopen
    refine ⟨fun hhigh => hset _ (hopen.trans (if_pos ⟨rfl, hhigh⟩)), fun hlow hfull => hset _ ?_, fun hlow hroom => ?_⟩
    · exact (hopen.trans (if_neg fun h => absurd h.2 (Nat.not_lt.mpr hlow))).trans (if_pos (Bool.eq_false_iff.mpr hfull))
    · have hrun := (hopen.trans (if_neg fun h => absurd h.2 (Nat.not_lt.mpr hlow))).trans (if_neg (by rw [hroom]; nofun))
      exact congrArg Host.Outcome.next (takeCommand_of_inFlight (c := .setCredential kind value level) hready hrun tag)
  · rw [if_pos hkind] at hcode
    have hopen := ownerSetCredential_of_code (level := level) (value := value) hfrozen hattempts hlocked hcode
      fun _ => nofun
    rw [acceptCalibration_eq hlocked] at hopen
    have hfleet : ¬(CredentialKind.fleet = .inspector ∧ 1 < level) := nofun
    refine ⟨fun hfull => hset _ ?_, fun hroom => ?_⟩
    · exact (hopen.trans (if_neg hfleet)).trans (if_pos (Bool.eq_false_iff.mpr hfull))
    · have hrun := (hopen.trans (if_neg hfleet)).trans (if_neg (by rw [hroom]; nofun))
      exact congrArg Host.Outcome.next (takeCommand_of_inFlight (c := .setCredential kind value level) hready hrun tag)
  · rw [ownerRemoveLock, hfrozen, if_neg Bool.false_ne_true, if_neg hattempts, if_pos hinspector]
  · rw [ownerRemoveLock_of_open hfrozen hattempts hinspector, if_pos (Bool.eq_false_iff.mpr hfull)]
  · have hrun := ownerRemoveLock_of_open hfrozen hattempts hinspector
    rw [if_neg (by rw [hroom]; nofun), acceptCalibration_eq (by rw [hinspector]; nofun)] at hrun
    exact congrArg Host.Outcome.next (takeCommand_of_inFlight (c := .removeLock) hready hrun tag)

end Sys2Proof.Machine

namespace Sys2Proof.Machine

/-! ## The end of an event, and the condition set (R121, R188, R189, R193) -/

theorem settle_of_same {before after : State} (h : conditions after = conditions before) :
    settle before after = { after with store := copies after } := if_pos h

theorem settle_of_changed {before after : State} (h : conditions after ≠ conditions before) :
    settle before after = { after with store := copies after, reports := { after.reports with device := true } } :=
  if_neg h

/-- A change of the condition set from `s` to `t` has raised the device status request. -/
def ReportsChange (s t : State) : Prop := conditions t ≠ conditions s → t.reports.device = true

theorem ReportsChange.of_same {s t : State} (h : conditions t = conditions s) : ReportsChange s t :=
  fun hne => absurd h hne

theorem reportsChange_settle {s before : State} (hb : conditions before = conditions s) (after : State) :
    ReportsChange s (settle before after) := by
  by_cases h : conditions after = conditions before
  · rw [settle_of_same h]
    exact .of_same (h.trans hb)
  · rw [settle_of_changed h]
    exact fun _ => rfl

theorem reportsChange_event {s q : State} (hq : conditions q = conditions s) (f : State → State) :
    ReportsChange s (event f q) := by
  unfold event
  split
  · exact reportsChange_settle hq _
  · exact .of_same hq

/-- A damage leaves each place and each release as it is, and so every condition (R121, R128). -/
theorem conditions_damageJournal (n : Nat) (left : StoredContents) (s : State) :
    conditions (damageJournal n left s) = conditions s := by
  have hreleased : (fun r : JournalRecord => r.released) ∘ damageRecord n left = fun r => r.released := by
    funext r
    rw [Function.comp, damageRecord]
    split <;> rfl
  have hplace : placeAvailable (damageJournal n left s).journal = placeAvailable s.journal := by
    simp only [placeAvailable, emptyPlaces, damageJournal, List.length_map, List.any_map, hreleased]
    rfl
  have hroom : canReserve (damageJournal n left s).journal .delivery = canReserve s.journal .delivery :=
    congrArg (· && numberingPasses s.journal .delivery) hplace
  simp only [conditions, hroom]
  rfl

/-- Every command but a loss of supply reports a change of the condition set (R189). -/
theorem exec_reportsChange {i : Instr} {s t : State} (hi : ∀ b, i ≠ .supplyFailure b) (he : exec i s = .next t) :
    ReportsChange s t := by
  cases i <;> injection he with he <;> subst he
  case edgeEvent l e t => exact reportsChange_event (q := setLevel l e s) rfl _
  case powerFail => exact reportsChange_event (q := setFailPin true s) rfl _
  case powerFailRelease => exact reportsChange_event (q := setFailPin false s) rfl _
  case powerOn => exact reportsChange_settle rfl _
  case supplyFailure b => exact absurd rfl (hi b)
  case storageMediumFailure n left => exact .of_same (conditions_damageJournal n left s)
  all_goals exact reportsChange_event rfl _

/-! ### Causes, bits and the principal condition -/

theorem exists_line {p : LineId → Prop} : (∃ l, p l) ↔ p .line1 ∨ p .line2 :=
  ⟨fun ⟨l, hl⟩ => by cases l; exacts [.inl hl, .inr hl], fun h => h.elim (fun h => ⟨_, h⟩) fun h => ⟨_, h⟩⟩

theorem valveFaulted_iff (ln : Line) :
    valveFaulted ln = true ↔
      ∃ d, ln.kept.state = .suspended ∧ ln.kept.ctx = some d ∧ faultIn d.faults .valveFault = true := by
  unfold valveFaulted
  cases ln.kept.ctx <;> simp

theorem conditions_valveFault_iff (s : State) :
    (conditions s).valveFault = true ↔
      ∃ l d, s.lineState l = .suspended ∧ s.ctx l = some d ∧ faultIn d.faults .valveFault = true := by
  rw [exists_line, conditions, Bool.or_eq_true, valveFaulted_iff, valveFaulted_iff]
  rfl

theorem conditions_journalFull_iff (s : State) :
    (conditions s).journalFull = true ↔
      (1024 ≤ s.journal.records.length + s.journal.reservations.length ∧ ∀ r ∈ s.journal.records, r.released = false) ∨
        4294967295 < s.journal.newestSeq + (s.journal.reservations.filter fun r => r.sequence = none).length + 1 ∨
        4294967295 < s.journal.newestTicket +
          (s.journal.reservations.filter fun r => r.kind = .delivery ∧ r.sequence = none).length + 1 := by
  rw [conditions, Bool.not_eq_true', Bool.eq_false_iff, Ne, canReserve_iff, not_and_or, not_and_or, not_or, not_lt, not_le,
    not_exists]
  simp only [not_and, Bool.not_eq_true, forall_const, not_le]

theorem conditions_unattendedFlow_iff (s : State) :
    (conditions s).unattendedFlow = true ↔ ∃ l, 1000 ≤ (s.line.get l).kept.unattended := by
  rw [exists_line, conditions, Bool.or_eq_true, unattendedHigh, unattendedHigh, decide_eq_true_eq, decide_eq_true_eq]
  rfl

/-- A flag of a list stands at a position, which then is one of the list. -/
theorem getD_eq_true_iff {bs : List Bool} {n : Nat} : bs.getD n false = true ↔ ∃ h : n < bs.length, bs[n] = true := by
  rw [List.getD_eq_getElem?_getD]
  by_cases h : n < bs.length
  · simp [h]
  · simp [h]

/-- The principal condition is the first active one in the order of the ranks, counted from 1 (R189). -/
theorem principal_eq_succ_iff (c : Conditions) (n : Nat) :
    c.principal = n + 1 ↔ c.ranked.getD n false = true ∧ ∀ k, k < n → c.ranked.getD k false = false := by
  have hfind : c.principal = n + 1 ↔ c.ranked.findIdx? id = some n := by
    unfold Conditions.principal
    split
    · next h => simp [h]
    · next i h => simp [h]
  rw [hfind, List.findIdx?_eq_some_iff_getElem, getD_eq_true_iff]
  constructor
  · rintro ⟨hn, htrue, hbefore⟩
    refine ⟨⟨hn, htrue⟩, fun k hk => Bool.eq_false_iff.mpr fun h => ?_⟩
    obtain ⟨_, hk'⟩ := getD_eq_true_iff.mp h
    exact hbefore k hk hk'
  · rintro ⟨⟨hn, htrue⟩, hbefore⟩
    exact ⟨hn, htrue, fun k hk hk' =>
      absurd (getD_eq_true_iff.mpr ⟨hk.trans hn, hk'⟩) (Bool.eq_false_iff.mp (hbefore k hk))⟩

theorem principal_eq_zero_iff (c : Conditions) : c.principal = 0 ↔ ∀ n, c.ranked.getD n false = false := by
  have hfind : c.principal = 0 ↔ c.ranked.findIdx? id = none := by
    unfold Conditions.principal
    split
    · next h => simp [h]
    · next i h => simp [h]
  rw [hfind, List.findIdx?_eq_none_iff]
  constructor
  · refine fun h n => Bool.eq_false_iff.mpr fun hn => ?_
    obtain ⟨hlt, htrue⟩ := getD_eq_true_iff.mp hn
    exact absurd htrue (Bool.eq_false_iff.mp (h _ (List.getElem_mem hlt)))
  · intro h b hb
    obtain ⟨n, hn, rfl⟩ := List.getElem_of_mem hb
    exact Bool.eq_false_iff.mpr fun htrue => Bool.eq_false_iff.mp (h n) (getD_eq_true_iff.mpr ⟨hn, htrue⟩)

/-- Data of up to 8 bytes needs no padding (R192). -/
theorem padData_of_short {bytes : List Byte} (h : bytes.length ≤ 8) : padData bytes = bytes := by
  rw [padData, paddedLength, if_pos h, Nat.sub_self, List.replicate_zero, List.append_nil]

/-- Settles O3: the end of an event, the report of every command, and the conditions by their causes. -/
theorem eventStoresContextsAndReports : Obligations.EventStoresContextsAndReports := by
  unfold Obligations.EventStoresContextsAndReports
  refine ⟨fun before after => ⟨rfl, settle_of_same, settle_of_changed⟩, fun i s t hstore hi he =>
    ⟨exec_storeAgrees hstore he, exec_reportsChange hi he⟩, fun s => ⟨⟨Iff.rfl, conditions_valveFault_iff s,
      conditions_journalFull_iff s, Iff.rfl, decide_eq_true_iff, ?_, ?_, conditions_unattendedFlow_iff s⟩,
      testBit_presence (conditions s).ranked, principal_eq_zero_iff (conditions s),
      principal_eq_succ_iff (conditions s), ?_⟩⟩
  · exact (Bool.or_eq_true ..).to_iff
  · exact (Bool.not_eq_true' ..).to_iff
  · rw [deviceStatusFrame, ownCabFrame, padData_of_short (by simp [deviceStatusBytes])]
    rfl

end Sys2Proof.Machine

namespace Sys2Proof.Machine

/-! ## The owners of field identifiers (R139, R163) -/

/-- The identifier that an owner consumes frames at (R163). -/
def ownIdentifier (c : Calibration) : FieldOwner → Nat
  | .probe l => (c.lines.get l).probeId
  | .air l => (c.lines.get l).airId
  | .valve l => (c.lines.get l).valveId + 1

/-- The owners, in the order of their identifiers in the protected set. -/
def fieldOwners : List FieldOwner :=
  [.valve .line1, .probe .line1, .air .line1, .valve .line2, .probe .line2, .air .line2]

theorem mem_fieldOwners (o : FieldOwner) : o ∈ fieldOwners := by
  rcases o with l | l | l <;> cases l <;> decide

/-- Every owner's identifier is a protected one (R162, R163). -/
theorem ownIdentifiers_sublist (c : Calibration) : (fieldOwners.map (ownIdentifier c)).Sublist (protectedSet c) :=
  .cons _ (.cons_cons _ (.cons_cons _ (.cons_cons _ (
    .cons _ (.cons_cons _ (.cons_cons _ (.cons_cons _ (.cons _ .slnil))))))))

/-- With distinct identifiers no two owners share one (R139). -/
theorem ownIdentifier_injective {c : Calibration} (h : (protectedSet c).Nodup) :
    Function.Injective (ownIdentifier c) := fun o o' he =>
  List.inj_on_of_nodup_map (h.sublist (ownIdentifiers_sublist c)) (mem_fieldOwners o) (mem_fieldOwners o') he

theorem ownIdentifier_of_ownerOnLine {c : Calibration} {l : LineId} {n : Nat} {o : FieldOwner}
    (h : ownerOnLine c l n = some o) : n = ownIdentifier c o := by
  unfold ownerOnLine at h
  split at h
  · next e => exact Option.some.inj h ▸ e
  · split at h
    · next e => exact Option.some.inj h ▸ e
    · split at h
      · next e => exact Option.some.inj h ▸ e
      · cases h

theorem ownerOnLine_ne_none {c : Calibration} {l : LineId} {n : Nat}
    (h : n = ownIdentifier c (.probe l) ∨ n = ownIdentifier c (.air l) ∨ n = ownIdentifier c (.valve l)) :
    ownerOnLine c l n ≠ none := by
  unfold ownerOnLine
  split
  · nofun
  · next hprobe =>
    split
    · nofun
    · next hair =>
      split
      · nofun
      · next hvalve => exact (h.elim hprobe (·.elim hair hvalve)).elim

theorem fieldOwner_of_extended (c : Calibration) {f : Frame} (h : f.extended = true) :
    fieldOwner c f = (ownerOnLine c .line1 f.ident <|> ownerOnLine c .line2 f.ident) := if_pos h

/-- A frame at an owner's identifier has an owner (R163). -/
theorem fieldOwner_ne_none {c : Calibration} {f : Frame} (hf : f.extended = true) {o : FieldOwner}
    (h : f.ident = ownIdentifier c o) : fieldOwner c f ≠ none := by
  have hline : ∃ l, ownerOnLine c l f.ident ≠ none := by
    rcases o with l | l | l
    · exact ⟨l, ownerOnLine_ne_none (.inl h)⟩
    · exact ⟨l, ownerOnLine_ne_none (.inr (.inl h))⟩
    · exact ⟨l, ownerOnLine_ne_none (.inr (.inr h))⟩
  rw [fieldOwner_of_extended c hf]
  intro hnone
  obtain ⟨h1, h2⟩ := (Option.orElse_eq_none _ _).mp hnone
  obtain ⟨l, hl⟩ := hline
  cases l
  · exact hl h1
  · exact hl h2

/-- The owner of a frame consumes at its identifier (R163). -/
theorem ownIdentifier_of_fieldOwner {c : Calibration} {f : Frame} {o : FieldOwner} (h : fieldOwner c f = some o) :
    f.ident = ownIdentifier c o := by
  unfold fieldOwner at h
  split at h
  · rcases (Option.orElse_eq_some _ _ _).mp h with h | ⟨-, h⟩
    · exact ownIdentifier_of_ownerOnLine h
    · exact ownIdentifier_of_ownerOnLine h
  · cases h

/-- With distinct identifiers, an owner has exactly the frames at its identifier (R139, R163). -/
theorem fieldOwner_eq_some_iff {c : Calibration} (hc : (protectedSet c).Nodup) {f : Frame} (hf : f.extended = true)
    (o : FieldOwner) : fieldOwner c f = some o ↔ f.ident = ownIdentifier c o := by
  refine ⟨ownIdentifier_of_fieldOwner, fun h => ?_⟩
  obtain ⟨o', ho'⟩ := Option.ne_none_iff_exists'.mp (fieldOwner_ne_none hf h)
  rw [ho', ownIdentifier_injective hc ((ownIdentifier_of_fieldOwner ho').symm.trans h)]

/-- Settles O22: distinct identifiers make each owner the one at its own identifier. -/
theorem fieldIdentifiersHaveOneOwner : Obligations.FieldIdentifiersHaveOneOwner := by
  unfold Obligations.FieldIdentifiersHaveOneOwner
  intro c f own hc
  exact ⟨fun hf => if_neg (by rw [hf]; exact Bool.false_ne_true), fun hf l =>
    ⟨fieldOwner_eq_some_iff hc hf (.probe l), fieldOwner_eq_some_iff hc hf (.air l),
      fieldOwner_eq_some_iff hc hf (.valve l)⟩⟩

end Sys2Proof.Machine

namespace Sys2Proof.Machine

/-! ## The reads of the calibration set (R138, R143, R144) -/

/-! ### Selectors (R138) -/

theorem selectorOf_codes (sel : ItemSel) :
    selectorOf (selectorCodes sel).1 (selectorCodes sel).2.1 (selectorCodes sel).2.2 = some sel :=
  (recordItemOf_eq_some_iff _ _ _ (.item sel)).mp (recordItemOf_codes (.item sel))

theorem selectorOf_line (l : LineId) (kind band : Nat) :
    selectorOf (lineNumber l) kind band = selectorOf.lineItem kind band l := by
  cases l <;> rfl

theorem selectorOf_product (p : ProductNo) (kind band : Nat) :
    selectorOf (17 + p.val) kind band = selectorOf.productItem kind p := by
  have hp := p.isLt
  rw [show 17 + p.val = p.val + 14 + 3 by omega]
  exact (dif_pos (by omega)).trans (congrArg _ (Fin.ext (by simp)))

theorem lineItem_eq_none_iff (l : LineId) (kind band : Nat) :
    selectorOf.lineItem kind band l = none ↔ ¬(kind ≤ 8 ∧ (kind = 2 → band ≤ 5)) := by
  unfold selectorOf.lineItem
  split
  case h_3 =>
    split
    · next h => simp [Nat.le_of_lt_succ h]
    · next h => simp [Nat.lt_of_not_le (mt Nat.lt_succ_of_le h)]
  case h_10 => exact iff_of_true rfl (by grind)
  all_goals simp

theorem productItem_eq_none_iff (p : ProductNo) (kind : Nat) :
    selectorOf.productItem kind p = none ↔ ¬(10 ≤ kind ∧ kind ≤ 14) := by
  unfold selectorOf.productItem
  split
  case h_6 => exact iff_of_true rfl (by grind)
  all_goals simp

/-- The scopes are GLOBAL, the lines' and the products' (R138). -/
theorem scope_cases (scope : Nat) :
    scope = 0 ∨ (∃ l : LineId, scope = lineNumber l) ∨ (∃ p : ProductNo, scope = 17 + p.val) ∨
      (3 ≤ scope ∧ ¬(17 ≤ scope ∧ scope ≤ 24)) := by
  by_cases hp : 17 ≤ scope ∧ scope ≤ 24
  · exact .inr (.inr (.inl ⟨⟨scope - 17, by omega⟩, (Nat.add_sub_cancel' hp.1).symm⟩))
  · match scope with
    | 0 => exact .inl rfl
    | 1 => exact .inr (.inl ⟨.line1, rfl⟩)
    | 2 => exact .inr (.inl ⟨.line2, rfl⟩)
    | n + 3 => exact .inr (.inr (.inr ⟨by omega, hp⟩))

theorem selectorOf_other {scope : Nat} (h : 3 ≤ scope) (hp : ¬(17 ≤ scope ∧ scope ≤ 24)) (kind band : Nat) :
    selectorOf scope kind band = none := by
  obtain ⟨n, rfl⟩ := Nat.exists_eq_add_of_le' h
  exact dif_neg hp

/-- The selectors that fit (R138). -/
theorem selectorOf_eq_none_iff (scope kind band : Nat) :
    selectorOf scope kind band = none ↔
      ¬((scope = 0 ∧ kind = 9) ∨ ((scope = 1 ∨ scope = 2) ∧ kind ≤ 8 ∧ (kind = 2 → band ≤ 5)) ∨
        (17 ≤ scope ∧ scope ≤ 24 ∧ 10 ≤ kind ∧ kind ≤ 14)) := by
  rcases scope_cases scope with rfl | ⟨l, rfl⟩ | ⟨p, rfl⟩ | ⟨h, hp⟩
  · simp [selectorOf]
  · have hl : lineNumber l = 1 ∨ lineNumber l = 2 := by cases l <;> decide
    rw [selectorOf_line, lineItem_eq_none_iff]
    omega
  · have hp := p.isLt
    rw [selectorOf_product, productItem_eq_none_iff]
    omega
  · simp only [selectorOf_other h hp, true_iff]
    omega

/-! ### The answers (R143, R144) -/

theorem optCode_unlockingCredential (st : LockState) :
    optCode CredentialKind.code (unlockingCredential st) = match st with
      | .unlocked c => b1 c.code
      | _ => b1 0xFF := by
  cases st <;> rfl

theorem ownerReadCalibrationItem_of_unnamed {scope kind band : Nat} (h : selectorOf scope kind band = none)
    (s : State) : ownerReadCalibrationItem scope kind band s = (s, plain .parameter) := by
  rw [ownerReadCalibrationItem, h]

theorem ownerReadCalibrationItem_of_item {scope kind band : Nat} {sel : ItemSel}
    (h : selectorOf scope kind band = some sel) (s : State) :
    ownerReadCalibrationItem scope kind band s =
      (s, .reply .ok (calValueBytes (itemValue s.cal sel) ++ definedData s.cal sel)) := by
  rw [ownerReadCalibrationItem, h]

/-- Settles O40: the answers are those of the two owners, the selectors go by scope, and the values are read field by
field. -/
theorem calibrationReadsAnswer : Obligations.CalibrationReadsAnswer := by
  unfold Obligations.CalibrationReadsAnswer
  intro tag scope kind band s hready
  refine ⟨?identity, fun hnone => ?unnamed, fun sel hsel => ?item, selectorOf_codes, selectorOf_eq_none_iff ..,
    rfl, fun l => ?lineSelectors, fun p => ?productSelectors, fun l => ?lineValues, ⟨rfl, rfl⟩, fun p => ?productValues⟩
  case identity =>
    refine congrArg Host.Outcome.next ((takeCommand_of_reply (c := .readCalibrationIdentity) hready rfl tag).trans ?_)
    rw [optCode_unlockingCredential]
    rfl
  case unnamed =>
    exact next_of_plain (c := .readCalibrationItem scope kind band) hready
      (ownerReadCalibrationItem_of_unnamed hnone s) tag
  case item =>
    exact congrArg Host.Outcome.next (takeCommand_of_reply (c := .readCalibrationItem scope kind band) hready
      (ownerReadCalibrationItem_of_item hsel s) tag)
  case lineSelectors =>
    simp only [selectorOf_line]
    exact ⟨rfl, rfl, fun i => dif_pos i.isLt, rfl, rfl, rfl, rfl, rfl, rfl⟩
  case productSelectors =>
    simp only [selectorOf_product]
    exact ⟨rfl, rfl, rfl, rfl, rfl⟩
  case lineValues =>
    intro c reads
    refine ⟨⟨rfl, rfl⟩, ⟨rfl, rfl⟩, fun i b hb => ⟨itemValue_band s.cal l i _ hb, rfl⟩,
      fun i hi => ⟨itemValue_band s.cal l i _ (List.getElem?_eq_none hi), rfl⟩, ⟨rfl, rfl⟩, ⟨rfl, rfl⟩, ⟨rfl, rfl⟩,
      ⟨rfl, rfl⟩, ⟨rfl, rfl⟩, ⟨rfl, rfl⟩⟩
  case productValues =>
    intro r reads
    have hdefined : (r.defined.toNat : Int) = if r.defined then 1 else 0 := by cases r.defined <;> rfl
    have hbasis : (r.basis.code : Int) = if r.basis = .gross then 0 else 1 := by cases r.basis <;> rfl
    exact ⟨⟨congrArg CalValue.int hdefined, rfl⟩, ⟨rfl, rfl⟩, ⟨rfl, rfl⟩, ⟨rfl, rfl⟩,
      ⟨congrArg CalValue.int hbasis, rfl⟩⟩

end Sys2Proof.Machine

namespace Sys2Proof.Machine

/-! ## The lock's own commands (R152 to R155, R158) -/

/-! ### UNLOCK (R152) -/

theorem credentialOfCode_code (w : CredentialKind) : CredentialKind.ofCode w.code = some w := by
  cases w <;> rfl

section
variable {s : State} {kind : Nat} {value : BitVec 128}

/-- UNLOCK past the checks on the lock, of a kind that names no credential (R152). -/
theorem ownerUnlock_of_unnamed (hfrozen : s.lock.frozen = false) (hattempts : s.lock.attempts ≠ 0)
    (hcode : CredentialKind.ofCode kind = none) : ownerUnlock kind value s = unlockAnswer s .parameter := by
  rw [ownerUnlock, hfrozen, if_neg Bool.false_ne_true, if_neg hattempts, hcode]

/-- UNLOCK past the checks on the lock, with a credential (R152). -/
theorem ownerUnlock_of_code {which : CredentialKind} (hfrozen : s.lock.frozen = false) (hattempts : s.lock.attempts ≠ 0)
    (hcode : CredentialKind.ofCode kind = some which) :
    ownerUnlock kind value s =
      if s.lock.state ≠ .locked then unlockAnswer s .ok
      else if which = .fleet ∧ s.lock.strict = true then unlockAnswer s .level
      else if credentialOf s.lock which ≠ some value then
        unlockAnswer { s with lock := { s.lock with attempts := s.lock.attempts - 1 } } .badCredential
      else
        unlockAnswer
          { s with lock := { s.lock with state := .unlocked which, relock := some (s.now + 900000000) } } .ok := by
  rw [ownerUnlock, hfrozen, if_neg Bool.false_ne_true, if_neg hattempts, hcode]
  rfl

/-- The response to UNLOCK carries the lock state and the attempts that the command leaves (R152; entry 13). -/
theorem exec_unlock_of_answer {q : State} {st : Status} (h : PortReady s)
    (hrun : ownerUnlock kind value s = unlockAnswer q st) (tag : Nat) :
    exec (.unlock tag kind value) s =
      .next (settle s (replied 0x43 tag st (b1 q.lock.state.code ++ b1 q.lock.attempts) q)) :=
  congrArg Host.Outcome.next (takeCommand_of_reply (c := .unlock kind value) h hrun tag)

end

/-! ### LOCK and the relock timer (R154, R155) -/

theorem ownerLock_of_opened {s : State} (h : s.lock.state = .opened) : ownerLock s = (s, plain .state) := by
  rw [ownerLock, h]

theorem ownerLock_of_locked {s : State} (h : s.lock.state = .locked) : ownerLock s = (s, plain .ok) := by
  rw [ownerLock, h]

theorem ownerLock_of_unlocked {s : State} {c : CredentialKind} (h : s.lock.state = .unlocked c) :
    ownerLock s = (relock s, plain .ok) := by
  rw [ownerLock, h]

theorem unlockingCredential_of_not_unlocked {st : LockState} (h : ∀ c, st ≠ .unlocked c) :
    unlockingCredential st = none := by
  cases st with
  | unlocked c => exact absurd rfl (h c)
  | _ => rfl

theorem relockDue_of_due {s : State} {c : CredentialKind} (hstate : s.lock.state = .unlocked c)
    (h : ∃ x, s.lock.relock = some x ∧ x ≤ s.now) : relockDue s = true := by
  rw [relockDue, hstate, timerDue_of_due h]
  rfl

/-- Outside UNLOCKED, and before its deadline, the relock timer does not expire (R154). -/
theorem relockDue_of_rests {s : State}
    (h : (∀ c, s.lock.state ≠ .unlocked c) ∨ ∀ x, s.lock.relock = some x → s.now < x) : relockDue s = false := by
  rcases h with h | h
  · rw [relockDue, unlockingCredential_of_not_unlocked h]
    rfl
  · rw [relockDue, timerDue_of_rests h, Bool.and_false]

/-- Settles O44: UNLOCK and LOCK answer by the first check that applies, and a due relock timer locks. -/
theorem lockCommandsAndRelock : Obligations.LockCommandsAndRelock := by
  unfold Obligations.LockCommandsAndRelock
  refine ⟨fun tag kind value s hready => ?commands, fun t x c s hon hstate hx hle => ?due, fun t s hon hrests => ?rests⟩
  case commands =>
    intro lk unlocks held locks
    have hunlock : ∀ st new, ownerUnlock kind value s = unlockAnswer { s with lock := new } st → unlocks st new :=
      fun st new hrun => exec_unlock_of_answer hready hrun tag
    refine ⟨fun hfrozen => hunlock _ _ (if_pos hfrozen), fun hfrozen hattempts => hunlock _ _ ?lockout,
      fun hfrozen hattempts => ⟨fun h1 h2 => hunlock _ _ ?unnamed, fun w hw => ?named⟩,
      fun h => next_of_plain (c := .lock) hready (ownerLock_of_opened h) tag,
      fun h => next_of_plain (c := .lock) hready (ownerLock_of_locked h) tag,
      fun c h => next_of_plain (c := .lock) hready (ownerLock_of_unlocked h) tag,
      next_of_plain (c := .freeze) hready rfl tag⟩
    case lockout =>
      rw [ownerUnlock, hfrozen, if_neg Bool.false_ne_true, if_pos hattempts]
    case unnamed =>
      have hcode := credentialOfCode_eq kind
      rw [if_neg h1, if_neg h2] at hcode
      exact ownerUnlock_of_unnamed hfrozen hattempts hcode
    case named =>
      have hrun := ownerUnlock_of_code (value := value) hfrozen hattempts (hw ▸ credentialOfCode_code w)
      refine ⟨fun hopen => hunlock _ _ (hrun.trans (if_pos hopen)), fun hlocked => ?_⟩
      rw [if_neg (not_not.mpr hlocked)] at hrun
      have hlevel : w = .inspector ∨ lk.strict = false → ¬(w = .fleet ∧ s.lock.strict = true) := by
        rintro (rfl | hstrict) ⟨hfleet, hs⟩
        · cases hfleet
        · exact Bool.false_ne_true (hstrict.symm.trans hs)
      have hheld : credentialOf s.lock w = held w := by cases w <;> rfl
      refine ⟨fun hfleet hstrict => hunlock _ _ (hrun.trans (if_pos ⟨hfleet, hstrict⟩)), fun hw hbad => hunlock _ _ ?_,
        fun hw hgood => hunlock _ _ ?_⟩
      · rw [hrun, if_neg (hlevel hw), hheld, if_pos hbad]
      · rw [hrun, if_neg (hlevel hw), hheld, if_neg (not_not.mpr hgood)]
  case due =>
    exact next_timedEvent hon (if_pos (relockDue_of_due (s := advanceTo t s) hstate ⟨x, hx, hle⟩))
  case rests =>
    exact next_timedEvent hon (if_neg (Bool.eq_false_iff.mp (relockDue_of_rests (s := advanceTo t s) hrests)))

end Sys2Proof.Machine

namespace Sys2Proof.Machine

/-! ## Frames that are dropped on arrival, and frames that are looked up (R160 to R164, R174, R175, R195, R199) -/

/-! ### The block and the protected set -/

theorem inBlock_iff (s : State) (f : Frame) :
    inBlock s f = true ↔ f.extended = true ∧ blockStart s.port.address ≤ f.ident ∧
      f.ident ≤ blockStart s.port.address + 15 := by
  simp only [inBlock, Bool.and_eq_true, decide_eq_true_eq, and_assoc]

theorem isProtected_iff (c : Calibration) (f : Frame) :
    isProtected c f = true ↔ f.extended = true ∧ f.ident ∈ protectedSet c := by
  simp only [isProtected, Bool.and_eq_true, List.contains_iff_mem]

/-! ### Field-link arrivals -/

section
variable {s : State} {f : Frame}

theorem exec_fieldFrame_of_on (h : s.power.on = true) (f : Frame) :
    exec (.fieldFrameArrival f) s = .next (settle s (takeFieldFrame f s)) :=
  congrArg Host.Outcome.next (event_of_on h)

/-- A bus-off link, park and the wake delay bring no field frame (R174, R175, R199). -/
theorem takeFieldFrame_of_unheard
    (h : s.forward.fieldOff = true ∨ s.power.parked = true ∨ s.power.wakeDelay ≠ none) : takeFieldFrame f s = s := by
  have hunheard : fieldHeard s = false := by
    rcases h with h | h | h
    · rw [fieldHeard, h, Bool.not_true, Bool.false_and, Bool.false_and]
    · rw [fieldHeard, h, Bool.not_true, Bool.and_false, Bool.false_and]
    · rw [fieldHeard, Option.isNone_eq_false_iff.mpr (Option.isSome_iff_ne_none.mpr h), Bool.and_false]
  rw [takeFieldFrame, hunheard]
  rfl

theorem takeFieldFrame_of_inBlock (hoff : s.forward.fieldOff = false) (hpark : s.power.parked = false)
    (hwake : s.power.wakeDelay = none) (h : inBlock s f = true) :
    takeFieldFrame f s = if s.power.holdup then s else s.modCounters .fieldToCab (addProtectedDrops 1) := by
  simp [takeFieldFrame, fieldHeard, hoff, hpark, hwake, h]

theorem takeFieldFrame_of_unowned (hoff : s.forward.fieldOff = false) (hrun : Running s)
    (hwake : s.power.wakeDelay = none) (hblock : inBlock s f = false) (h : fieldOwner s.cal f = none) :
    takeFieldFrame f s = if s.power.holdup then s else forwardFrame .fieldToCab f s := by
  have hconsume : consume f s = s := by simp only [consume, h]
  rw [takeFieldFrame_of_heard hrun hoff hwake hblock, hconsume]

/-! ### Cab-link arrivals -/

theorem exec_cabFrame_of_on (h : s.power.on = true) (f : Frame) :
    exec (.cabFrameArrival f) s = .next (settle s (receiveCab (handleCabFrame f) s)) :=
  congrArg Host.Outcome.next (event_of_on h)

/-- A bus-off link, the wake delay and holdup bring no cab frame to an unparked part (R174, R195, R199). -/
theorem receiveCab_of_lost (g : State → State) (hpark : s.power.parked = false)
    (h : s.forward.cabOff = true ∨ s.power.wakeDelay ≠ none ∨ s.power.holdup = true) : receiveCab g s = s := by
  unfold receiveCab
  rcases h with h | h | h
  · rw [if_pos h]
  · simp [hpark, Option.isSome_iff_ne_none.mpr h]
  · simp [hpark, h]

theorem receiveCab_of_open (h : CabOpen s) (g : State → State) : receiveCab g s = g s := by
  simp only [receiveCab, h.link, h.notParked, h.notWaking, h.notHoldup, Option.isSome_none, Bool.false_eq_true,
    if_false]

/-- A frame of the part's block that is no command frame is taken and has no effect (R161). -/
theorem handleCabFrame_of_inBlock (hblock : inBlock s f = true) (h : f.ident ≠ blockStart s.port.address) :
    handleCabFrame f s = s := by
  rw [handleCabFrame, if_pos hblock, if_neg]
  simp [atCommandIdentifier, h]

theorem handleCabFrame_of_protected (hblock : inBlock s f = false) (h : isProtected s.cal f = true) :
    handleCabFrame f s = s.modCounters .cabToField (addProtectedDrops 1) := by
  rw [handleCabFrame, if_neg (Bool.eq_false_iff.mp hblock), if_pos h]

theorem handleCabFrame_of_other (hblock : inBlock s f = false) (h : isProtected s.cal f = false) :
    handleCabFrame f s = forwardFrame .cabToField f s := by
  rw [handleCabFrame, if_neg (Bool.eq_false_iff.mp hblock), if_neg (Bool.eq_false_iff.mp h)]

end

/-- Settles O46: each arrival is lost with the link or the part's state, or else judged by its identifier. -/
theorem arrivalsAreDroppedOrLookedUp : Obligations.ArrivalsAreDroppedOrLookedUp := by
  unfold Obligations.ArrivalsAreDroppedOrLookedUp
  intro f s hon start inside ids nine shielded cab field lost protectedDrops
  have hinside : inBlock s f = true ↔ inside := inBlock_iff s f
  have hshielded : isProtected s.cal f = true ↔ shielded := isProtected_iff s.cal f
  have houtside : ¬inside → inBlock s f = false := fun h => Bool.eq_false_iff.mpr (mt hinside.mp h)
  have hfield : ∀ {q}, takeFieldFrame f s = q → field = .next (settle s q) := fun hq =>
    hq ▸ exec_fieldFrame_of_on hon f
  have hcab : ∀ {q}, receiveCab (handleCabFrame f) s = q → cab = .next (settle s q) := fun hq =>
    hq ▸ exec_cabFrame_of_on hon f
  refine ⟨rfl, hinside, rfl, fun hpark => hfield (takeFieldFrame_of_unheard (.inr (.inl hpark))),
    fun hpark hwake => ⟨hcab (receiveCab_of_lost _ hpark (.inr (.inl hwake))),
      hfield (takeFieldFrame_of_unheard (.inr (.inr hwake)))⟩,
    fun hpark hwake hheld => ?holdup, fun hpark hwake hheld => ?service⟩
  case holdup =>
    have hoff : s.forward.fieldOff = true → field = lost := fun h => hfield (takeFieldFrame_of_unheard (.inl h))
    have hblock : s.forward.fieldOff = false → inside → field = lost := fun hlink h =>
      hfield ((takeFieldFrame_of_inBlock hlink hpark hwake (hinside.mpr h)).trans (if_pos hheld))
    have hunowned : s.forward.fieldOff = false → ¬inside → fieldOwner s.cal f = none → field = lost :=
      fun hlink h hnone => hfield
        ((takeFieldFrame_of_unowned hlink ⟨hon, hpark⟩ hwake (houtside h) hnone).trans (if_pos hheld))
    refine ⟨hcab (receiveCab_of_lost _ hpark (.inr (.inr hheld))), fun h => ?_, fun hnone => ?_, hoff⟩
    · cases hlink : s.forward.fieldOff with
      | true => exact hoff hlink
      | false => exact hblock hlink h
    · cases hlink : s.forward.fieldOff with
      | true => exact hoff hlink
      | false =>
        by_cases h : inside
        · exact hblock hlink h
        · exact hunowned hlink h hnone
  case service =>
    have hopen : s.forward.cabOff = false → ∀ {q}, handleCabFrame f s = q → cab = .next (settle s q) :=
      fun hlink _ hq => hcab ((receiveCab_of_open ⟨hon, hlink, hpark, hwake, hheld⟩ _).trans hq)
    have hserves : ¬s.power.holdup = true := Bool.eq_false_iff.mp hheld
    exact ⟨fun hlink => hcab (receiveCab_of_lost _ hpark (.inl hlink)),
      fun hlink h hne => hopen hlink (handleCabFrame_of_inBlock (hinside.mpr h) hne),
      fun hlink h hp => hopen hlink (handleCabFrame_of_protected (houtside h) (hshielded.mpr hp)),
      fun hlink h hp => hopen hlink
        (handleCabFrame_of_other (houtside h) (Bool.eq_false_iff.mpr (mt hshielded.mp hp))),
      fun hlink => hfield (takeFieldFrame_of_unheard (.inl hlink)),
      fun hlink h => hfield ((takeFieldFrame_of_inBlock hlink hpark hwake (hinside.mpr h)).trans (if_neg hserves)),
      fun hlink h hnone => hfield
        ((takeFieldFrame_of_unowned hlink ⟨hon, hpark⟩ hwake (houtside h) hnone).trans (if_neg hserves))⟩

end Sys2Proof.Machine

namespace Sys2Proof.Machine

/-! ## The release of POWER_FAIL and the loss of supply (R149, R195) -/

/-! ### A release in holdup -/

theorem exec_powerFailRelease_of_on {s : State} (h : s.power.on = true) :
    exec .powerFailRelease s = .next (settle s (takeRelease (setFailPin false s))) :=
  congrArg Host.Outcome.next ((event_of_on (s := setFailPin false s) h).trans (settle_congr rfl))

theorem takeRelease_of_service {s : State} (h : s.power.holdup = false) : takeRelease s = s := by
  rw [takeRelease, h]
  rfl

/-- With no write in progress, a release in holdup is a power-on at once (R195). -/
theorem takeRelease_of_noWrite {s : State} (h : s.power.holdup = true) (hqueue : s.journal.queue = []) :
    takeRelease s = runPowerOn false s := by
  rw [takeRelease, h, hqueue]
  rfl

/-- With a write in progress, a release in holdup waits for it (R195). -/
theorem takeRelease_of_write {s : State} (h : s.power.holdup = true) (hqueue : s.journal.queue ≠ []) :
    takeRelease s = { s with power := { s.power with releaseWaiting := true } } := by
  rw [takeRelease, h, List.isEmpty_eq_false_iff.mpr hqueue]
  rfl

/-! ### The power-on that a completion brings -/

/-- The completion of the write that a release waits for is followed by a power-on (R195). -/
theorem exec_writeCompletion_of_waiting {s : State} {w : JournalWrite} {rest : List JournalWrite}
    (hon : s.power.on = true) (hwait : s.power.releaseWaiting = true) (hqueue : s.journal.queue = w :: rest) :
    exec .writeCompletion s = .next (settle s
      (runPowerOn false { completed w rest s with store := copies (completed w rest s) })) := by
  have hwaits : (completed w rest s).power.releaseWaiting = true := by rw [completed_power, hwait]
  refine congrArg Host.Outcome.next ((event_of_on hon).trans (congrArg (settle s) ?_))
  unfold takeWriteCompletion
  rw [hqueue]
  exact if_pos hwaits

theorem checkNewestCalibration_clock (s : State) : (checkNewestCalibration s).clock = s.clock :=
  have h := checkNewestCalibration_withClock s.clock s
  (congrArg State.clock h :)

theorem restore_clock (keep : Bool) (s : State) : (restore keep s).clock = restoredClock keep s.clock := by
  rw [restore, requestRewrites, requestRewrite_eq, requestRewrite_eq]
  exact checkNewestCalibration_clock _

theorem runPowerOn_clock (keep : Bool) (s : State) : (runPowerOn keep s).clock = restoredClock keep s.clock := by
  rw [← restore_clock keep s, runPowerOn_eq]
  split
  · exact closeBothValves_clock .powerLoss _
  · rfl

/-- Power-on ends every state of the supply, and a standing POWER_FAIL brings holdup again (R195, R196). -/
theorem runPowerOn_power (keep : Bool) (s : State) :
    (runPowerOn keep s).power =
      { on := true, failPin := s.power.failPin, holdup := s.power.failPin, releaseWaiting := false, parked := false,
        wakeDelay := none } := by
  have hp : (restore keep s).power =
      { on := true, failPin := s.power.failPin, holdup := false, releaseWaiting := false, parked := false,
        wakeDelay := none } := (restoreKeeps_restore keep s).power
  rw [runPowerOn_eq]
  split
  · next h => simp only [heldUp, closeBothValves_power, hp, h]
  · next h => rw [hp, Bool.eq_false_iff.mpr h]

theorem runPowerOn_responses (keep : Bool) (s : State) : (runPowerOn keep s).port.responses = [] := by
  have hp : (restore keep s).port.responses = [] := congrArg CommandPort.responses (restoreKeeps_restore keep s).port
  rw [runPowerOn_eq]
  split
  · simp only [heldUp, closeBothValves_port, hp]
  · exact hp

/-! ### The loss of supply -/

theorem loseSupply_of_on {s : State} (h : s.power.on = true) (between : Bool) :
    loseSupply between s =
      { (if between then storeFirstOnly s else s) with
        power := { (if between then storeFirstOnly s else s).power with on := false } } := if_pos h

theorem loseSupply_of_off {s : State} (h : s.power.on = false) (between : Bool) : loseSupply between s = s :=
  if_neg (by rw [h]; exact Bool.false_ne_true)

/-- Between the two stores of a CALIBRATION write its record stands in the journal, and nothing else has changed
(R149). -/
theorem storeFirstOnly_of_calibration {s : State} {w : JournalWrite} {rest : List JournalWrite} {c : CalibrationRecord}
    (hqueue : s.journal.queue = w :: rest) (hcontents : w.contents = .calibration c) :
    storeFirstOnly s = { s with journal := completeWrite w rest s.journal } := by
  simp only [storeFirstOnly, hqueue, hcontents]

/-- Without a CALIBRATION write at the head there is no instant between two stores (R149). -/
theorem storeFirstOnly_of_noCalibration {s : State}
    (h : s.journal.queue = [] ∨ ∃ w rest d, s.journal.queue = w :: rest ∧ w.contents = .delivery d) :
    storeFirstOnly s = s := by
  rcases h with h | ⟨w, rest, d, hqueue, hcontents⟩
  · simp only [storeFirstOnly, h]
  · simp only [storeFirstOnly, hqueue, hcontents]

/-- Settles O53: a release runs the power-on where the write queue is empty and waits for the completion where it is
not, and a loss of supply keeps the journal but for a CALIBRATION write caught between its two stores. -/
theorem holdupEndsByReleaseOrSupply : Obligations.HoldupEndsByReleaseOrSupply := by
  unfold Obligations.HoldupEndsByReleaseOrSupply
  intro s released off result
  refine ⟨fun hon hservice => ?_, fun hon hheld hqueue => ?_, fun hon hheld hqueue => ?_,
    fun w rest hon hwait hqueue => ?_, fun hon => ?_, fun w rest c hon hqueue hcontents => ?_, fun hon hnone => ?_,
    fun hoff => ⟨?_, fun between => ?_⟩⟩
  · exact (exec_powerFailRelease_of_on hon).trans
      (congrArg (Host.Outcome.next <| settle s ·) (takeRelease_of_service (s := setFailPin false s) hservice))
  · have hrelease := takeRelease_of_noWrite (s := setFailPin false s) hheld hqueue
    exact congrArg Host.Outcome.next
      ((event_of_on (s := setFailPin false s) hon).trans (congrArg (settle released) hrelease))
  · exact (exec_powerFailRelease_of_on hon).trans
      (congrArg (Host.Outcome.next <| settle s ·) (takeRelease_of_write (s := setFailPin false s) hheld hqueue))
  · refine ⟨_, exec_writeCompletion_of_waiting hon hwait hqueue, ?_⟩
    rw [settle_clock, settle_lock, settle_power, settle_port, runPowerOn_clock, runPowerOn_power, runPowerOn_responses]
    exact ⟨rfl, (runPowerOn_volatile false _).1, rfl, congrArg Power.failPin (completed_power w rest s), rfl⟩
  · exact congrArg Host.Outcome.next (loseSupply_of_on hon false)
  · have hkind : writeKind s.journal w = .calibration := writeKind_eq (by rw [hcontents])
    refine congrArg Host.Outcome.next ((loseSupply_of_on hon true).trans ?_)
    rw [if_pos rfl, storeFirstOnly_of_calibration hqueue hcontents, completeWrite, hkind]
    rfl
  · refine congrArg Host.Outcome.next ((loseSupply_of_on hon true).trans ?_)
    rw [if_pos rfl, storeFirstOnly_of_noCalibration hnone]
  · exact congrArg Host.Outcome.next (event_of_off (s := setFailPin false s) hoff)
  · exact congrArg Host.Outcome.next (loseSupply_of_off hoff between)

end Sys2Proof.Machine

namespace Sys2Proof

/-! ## The bytes of a command frame read back (R178, R192) -/

/-! ### Fields -/

theorem leBytes_length (w n : Nat) : (leBytes w n).length = w := by
  induction w generalizing n with
  | zero => rfl
  | succ k ih => rw [leBytes, List.length_cons, ih]

theorem leNat_leBytes (w n : Nat) : leNat (leBytes w n) = n % 256 ^ w := by
  induction w generalizing n with
  | zero => rw [pow_zero, Nat.mod_one]; rfl
  | succ k ih =>  rw [leBytes, leNat, ih, BitVec.toNat_ofNat, pow_succ' 256 k, Nat.mod_mul]

/-- Values that fit the widths of their fields. -/
def FieldsFit : List Nat → List Nat → Prop := List.Forall₂ fun w v => v < 256 ^ w

/-- Fields written in their widths read back, whatever follows them (R178). -/
theorem readFields_writeFields {ws vs : List Nat} (h : FieldsFit ws vs) (extra : List Byte) :
    readFields ws (writeFields ws vs ++ extra) = some vs := by
  induction h with
  | nil => rfl
  | @cons w v ws vs hv _ ih =>
    have hlen : ¬(leBytes w v ++ (writeFields ws vs ++ extra)).length < w := by
      rw [List.length_append, leBytes_length]
      omega
    rw [writeFields, List.append_assoc, readFields, if_neg hlen, List.drop_left' (leBytes_length w v), ih,
      List.take_left' (leBytes_length w v), leNat_leBytes, Nat.mod_eq_of_lt hv]
    rfl

/-- A signed value of 4 bytes reads back from its field. -/
theorem toSigned_ofSigned {x : Int} (h : isSigned x = true) : toSigned 32 (ofSigned 32 x) = x := by
  simp only [isSigned, Bool.and_eq_true, decide_eq_true_eq] at h
  unfold toSigned ofSigned
  split <;> omega

/-! ### Commands -/

/-- The operands of a well-formed command fit the widths of its parameters (R192). -/
theorem Command.fieldsFit {c : Command} (h : c.wellFormed = true) :
    FieldsFit ((commandWidths c.code).getD []) c.values := by
  cases c <;>
    simp only [Command.wellFormed, Bool.and_eq_true, isByte, isWord, decide_eq_true_eq] at h <;>
    simp [FieldsFit, Command.code, commandWidths, Command.values, ofSigned] <;>
    omega

/-- The parameter values of a command spell it (R192). -/
theorem Command.commandOfValues_values {c : Command} (h : c.wellFormed = true) :
    commandOfValues c.code c.values = some c := by
  cases c
  case loadOrder | loadCompartment | writeSetting =>
    simp only [Command.wellFormed, Bool.and_eq_true] at h
    simp [Command.code, Command.values, commandOfValues, toSigned_ofSigned, h]
  case writeCalibrationItem | unlock | setCredential => simp [Command.code, Command.values, commandOfValues]
  all_goals rfl

theorem commandWidths_code (c : Command) : commandWidths c.code = some ((commandWidths c.code).getD []) := by
  cases c <;> rfl

theorem parseCommand_parameters {c : Command} (h : c.wellFormed = true) (extra : List Byte) :
    parseCommand c.code (c.parameters ++ extra) = some c := by
  rw [parseCommand, commandWidths_code, Option.bind_some, Command.parameters, readFields_writeFields (Command.fieldsFit h)]
  exact Command.commandOfValues_values h

theorem Command.code_lt (c : Command) : c.code < 256 := by cases c <;> simp [Command.code]

end Sys2Proof

namespace Sys2Proof.Machine

/-! ### Command frames -/

section
variable {tag : Nat} {c : Command} {f : Frame} {extra : List Byte}

theorem dataByte_zero_frameData (c : Command) (tag : Nat) (extra : List Byte) :
    dataByte (c.frameData tag ++ extra) 0 = c.code :=
  (BitVec.toNat_ofNat ..).trans (Nat.mod_eq_of_lt c.code_lt)

theorem dataByte_one_frameData (h : tag < 256) (c : Command) (extra : List Byte) :
    dataByte (c.frameData tag ++ extra) 1 = tag :=
  (BitVec.toNat_ofNat ..).trans (Nat.mod_eq_of_lt h)

theorem commandOfData_frameData (h : c.wellFormed = true) (tag : Nat) (extra : List Byte) :
    commandOfData (c.frameData tag ++ extra) = some c := by
  rw [commandOfData, dataByte_zero_frameData]
  exact parseCommand_parameters h extra

/-- A cab frame that spells a command is taken as its command frame (R161, R178). -/
theorem handleCabFrame_of_frameData {s : State} (h : c.wellFormed = true) (htag : tag < 256)
    (hext : f.extended = true) (hid : f.ident = blockStart s.port.address) (hdata : f.data = c.frameData tag ++ extra) :
    handleCabFrame f s = takeCommandFrame c.code tag (some c) s := by
  have hblock : inBlock s f = true := (inBlock_iff s f).mpr ⟨hext, hid.ge, by omega⟩
  have hcommand : atCommandIdentifier s f = true := by simp [atCommandIdentifier, hext, hid]
  rw [handleCabFrame, if_pos hblock, if_pos hcommand, hdata, dataByte_zero_frameData, dataByte_one_frameData htag,
    commandOfData_frameData h]

end

/-- The effect of a cab frame is what its handling leaves of the state it arrives in. -/
theorem event_receiveCab_congr {g g' : State → State} {s : State} (h : g s = g' s) :
    event (receiveCab g) s = event (receiveCab g') s := by
  simp only [event, receiveCab, h]

/-- A command row takes its command (entry 6). -/
theorem exec_of_command? {i : Instr} {tag : Nat} {c : Command} (h : i.command? = some (tag, c)) (s : State) :
    exec i s = .next (takeCommand tag c s) := by
  cases i <;> cases h <;> rfl

/-- Settles O6: the row of a command takes it as a command frame, and the frame's data read back as that command. -/
theorem cabFrameRunsItsCommand : Obligations.CabFrameRunsItsCommand := by
  unfold Obligations.CabFrameRunsItsCommand
  intro tag c f extra s row
  have hrow : row.command? = some (tag, c) := by cases c <;> rfl
  refine ⟨hrow, fun hwf htag hext hid hdata => ?_⟩
  rw [exec_of_command? hrow]
  exact congrArg Host.Outcome.next (event_receiveCab_congr (handleCabFrame_of_frameData hwf htag hext hid hdata))

end Sys2Proof.Machine

namespace Sys2Proof.Machine

/-! ## The commands of the pass table and of the counters (R165 to R167, R173) -/

/-! ### Codes (R165, R166, R192) -/

theorem Direction.ofCode_eq_some_iff {n : Nat} {d : Direction} : Direction.ofCode n = some d ↔ d.code = n :=
  ⟨fun h => by unfold Direction.ofCode at h; split at h <;> cases h <;> rfl, fun h => by subst h; cases d <;> rfl⟩

theorem Action.ofCode_eq_some_iff {n : Nat} {a : Action} : Action.ofCode n = some a ↔ a.code = n :=
  ⟨fun h => by unfold Action.ofCode at h; split at h <;> cases h <;> rfl, fun h => by subst h; cases a <;> rfl⟩

theorem Gate.ofCode_eq_some_iff {n : Nat} {g : Gate} : Gate.ofCode n = some g ↔ g.code = n :=
  ⟨fun h => by unfold Gate.ofCode at h; split at h <;> cases h <;> rfl, fun h => by subst h; cases g <;> rfl⟩

theorem yesNoOfCode_eq_some_iff {n : Nat} {b : Bool} : yesNoOfCode n = some b ↔ b.toNat = n :=
  ⟨fun h => by unfold yesNoOfCode at h; split at h <;> cases h <;> rfl, fun h => by subst h; cases b <;> rfl⟩

theorem Direction.code_le (d : Direction) : d.code ≤ 1 := by cases d <;> decide

theorem Action.code_le (a : Action) : a.code ≤ 2 := by cases a <;> decide

theorem Gate.code_le (g : Gate) : g.code ≤ 2 := by cases g <;> decide

/-! ### The entry that WRITE PASS ENTRY carries (R166) -/

section
variable {index direction matchValue mask action gate persist : Nat}

theorem carriedEntry_eq_some_iff {e : PassEntry} :
    carriedEntry direction matchValue mask action gate persist = some e ↔
      e.inUse = true ∧ e.direction.code = direction ∧ e.matchValue = matchValue ∧ e.mask = mask ∧
        e.action.code = action ∧ e.gate.code = gate ∧ e.persist.toNat = persist ∧
        matchValue ≤ last29 ∧ mask ≤ last29 := by
  rw [← Direction.ofCode_eq_some_iff, ← Action.ofCode_eq_some_iff, ← Gate.ofCode_eq_some_iff,
    ← yesNoOfCode_eq_some_iff]
  obtain ⟨inUse, d, v, m, a, g, p⟩ := e
  unfold carriedEntry
  split
  · next hd ha hg hp =>
    rw [hd, ha, hg, hp]
    split
    · next hfits =>
      constructor
      · rintro ⟨⟩
        exact ⟨rfl, rfl, rfl, rfl, rfl, rfl, rfl, hfits⟩
      · rintro ⟨rfl, ⟨⟩, rfl, rfl, ⟨⟩, ⟨⟩, ⟨⟩, _⟩
        rfl
    · next hunfit => exact iff_of_false nofun fun ⟨_, _, _, _, _, _, _, hfits⟩ => hunfit hfits
  · next hnone =>
    exact iff_of_false nofun fun ⟨_, hd, _, _, ha, hg, hp, _⟩ => hnone _ _ _ _ hd ha hg hp

/-- A field out of its range carries no entry (R166). -/
theorem carriedEntry_of_unfit
    (h : ¬(direction ≤ 1 ∧ matchValue ≤ 0x1FFFFFFF ∧ mask ≤ 0x1FFFFFFF ∧ action ≤ 2 ∧ gate ≤ 2 ∧ persist ≤ 1)) :
    carriedEntry direction matchValue mask action gate persist = none := by
  refine Option.eq_none_iff_forall_ne_some.mpr fun e he => h ?_
  obtain ⟨_, rfl, _, _, rfl, rfl, rfl, hmatch, hmask⟩ := carriedEntry_eq_some_iff.mp he
  exact ⟨e.direction.code_le, hmatch, hmask, e.action.code_le, e.gate.code_le, Bool.toNat_le _⟩

/-! ### The owner's answers -/

@[simp] theorem passIndexOfNumber_val (i : Fin 24) : passIndexOfNumber i.val = some i := dif_pos i.isLt

theorem passIndexOfNumber_eq_none (h : 24 ≤ index) : passIndexOfNumber index = none := dif_neg (Nat.not_lt.mpr h)

theorem ownerWritePassEntry_of_entry {e : PassEntry} (i : Fin 24) (s : State)
    (h : carriedEntry direction matchValue mask action gate persist = some e) :
    ownerWritePassEntry i.val direction matchValue mask action gate persist s =
      ({ s with forward := putEntry i e e.persist s.forward }, .reply .ok (entryData e)) := by
  simp only [ownerWritePassEntry, passIndexOfNumber_val, h]

theorem ownerWritePassEntry_of_refused (s : State)
    (h : passIndexOfNumber index = none ∨ carriedEntry direction matchValue mask action gate persist = none) :
    ownerWritePassEntry index direction matchValue mask action gate persist s = (s, plain .parameter) := by
  rcases h with h | h
  · simp only [ownerWritePassEntry, h]
  · rw [ownerWritePassEntry, h]
    cases passIndexOfNumber index <;> rfl

end

/-- Settles O45: the commands name an entry by its index, WRITE PASS ENTRY carries the entry of its codes, and the
counters are read and cleared as they stand. -/
theorem passTableCommands : Obligations.PassTableCommands := by
  unfold Obligations.PassTableCommands
  intro tag index direction matchValue mask action gate persist s h writes fields counts zero cleared fits
  refine ⟨fun hno => ?_, fun hindex => ?_, fun i hi => ?_, ?_, ?_⟩
  · refine next_of_plain (c := .writePassEntry index direction matchValue mask action gate persist) h
      (ownerWritePassEntry_of_refused s ?_) tag
    by_cases hindex : index < 24
    · exact .inr (carriedEntry_of_unfit fun hfits => hno ⟨hindex, hfits⟩)
    · exact .inl (passIndexOfNumber_eq_none (Nat.not_lt.mp hindex))
  · have hnone := passIndexOfNumber_eq_none hindex
    exact ⟨next_of_plain h (by simp only [runCommand, ownerDeletePassEntry, hnone]) tag,
      next_of_plain h (by simp only [runCommand, ownerReadPassEntry, hnone]) tag⟩
  · subst hi
    refine ⟨fun e huse hd hv hm ha hg hp hfits => ?_, ?_, ?_⟩
    · obtain ⟨_, hmatch, hmask, _⟩ := hfits
      have he : carriedEntry direction matchValue mask action gate persist = some e :=
        carriedEntry_eq_some_iff.mpr ⟨huse, hd, hv, hm, ha, hg, hp, hmatch, hmask⟩
      exact congrArg Host.Outcome.next
        (takeCommand_of_reply (c := .writePassEntry i direction matchValue mask action gate persist) h
          (ownerWritePassEntry_of_entry i s he) tag)
    · exact next_of_plain h (by simp only [runCommand, ownerDeletePassEntry, passIndexOfNumber_val]; rfl) tag
    · exact congrArg Host.Outcome.next
        (takeCommand_of_reply h (by simp only [runCommand, ownerReadPassEntry, passIndexOfNumber_val]; rfl) tag)
  · exact congrArg Host.Outcome.next (takeCommand_of_reply (c := .readForwardingCounters) h rfl tag)
  · exact next_of_plain (c := .clearForwardingCounters) h rfl tag

end Sys2Proof.Machine

namespace Sys2Proof.Machine

/-! ## The lookup of a frame, and where it goes (R168 to R170) -/

/-! ### The pass table -/

theorem entryMatches_iff (d : Direction) (ident : Nat) (e : PassEntry) :
    entryMatches d ident e = true ↔ e.inUse = true ∧ e.direction = d ∧ ident &&& e.mask = e.matchValue &&& e.mask := by
  simp only [entryMatches, Bool.and_eq_true, decide_eq_true_eq, and_assoc]

/-- No entry decides a frame that matches none of the 24. -/
theorem lookupEntry_of_none {table : Vector PassEntry 24} {d : Direction} {ident : Nat}
    (h : ∀ i : Fin 24, ¬entryMatches d ident table[i] = true) : lookupEntry table d ident = none := by
  refine List.find?_eq_none.mpr fun e he => ?_
  obtain ⟨i, hi, rfl⟩ := List.getElem_of_mem he
  have hlt : i < 24 := by simpa using hi
  exact h ⟨i, hlt⟩

/-- The first entry that matches decides the frame (R168). -/
theorem lookupEntry_of_first {table : Vector PassEntry 24} {d : Direction} {ident : Nat} {i : Fin 24}
    (h : entryMatches d ident table[i] = true) (hfirst : ∀ k : Fin 24, k < i → ¬entryMatches d ident table[k] = true) :
    lookupEntry table d ident = some table[i] := by
  refine List.find?_eq_some_iff_getElem.mpr ⟨h, i.val, by simp, by simp, fun k hk => ?_⟩
  simpa using hfirst ⟨k, hk.trans i.isLt⟩ hk

/-! ### The gates (R169) -/

theorem LineState.opensGate_iff (st : LineState) :
    st.opensGate = true ↔ st = .flowing ∨ st = .slowdown ∨ st = .stopping := by
  cases st <;> decide

/-! ### The verdict -/

section
variable {s : State} {d : Direction} {f : Frame}

theorem verdict_of_default
    (h : f.extended = false ∨ ∀ i : Fin 24, ¬entryMatches d f.ident s.forward.effect[i] = true) :
    verdict s d f = defaultVerdict (defaultOf s.settings d) := by
  unfold verdict
  rcases h with h | h
  · rw [h]; rfl
  · rw [lookupEntry_of_none h, ite_self]

theorem verdict_of_first {i : Fin 24} (hext : f.extended = true)
    (h : entryMatches d f.ident s.forward.effect[i] = true)
    (hfirst : ∀ k : Fin 24, k < i → ¬entryMatches d f.ident s.forward.effect[k] = true) :
    verdict s d f = entryVerdict s s.forward.effect[i] := by
  rw [verdict, if_pos hext, lookupEntry_of_first h hfirst]

theorem forwardFrame_of_pass (h : verdict s d f = .pass) : forwardFrame d f s = joinFifo d f s := by
  rw [forwardFrame, h]

theorem forwardFrame_of_tableDrop (h : verdict s d f = .tableDrop) :
    forwardFrame d f s = s.modCounters d addTableDrop := by
  rw [forwardFrame, h]

theorem forwardFrame_of_gatedDrop (h : verdict s d f = .gatedDrop) :
    forwardFrame d f s = s.modCounters d addGatedDrop := by
  rw [forwardFrame, h]

end

/-- Settles O47: the verdict of the first entry that matches, or of the default action, sends the frame to its FIFO or
to the counter of its drop. -/
theorem lookupDecidesTheFrame : Obligations.LookupDecidesTheFrame := by
  unfold Obligations.LookupDecidesTheFrame
  intro d f s queue byDefault queued counted passed dropped gated decides flows fallback
  have hdecides : ∀ e, entryMatches d f.ident e = true ↔ decides e := entryMatches_iff d f.ident
  have hflows : ∀ l, (s.lineState l).opensGate = true ↔ flows l := fun l => (s.lineState l).opensGate_iff
  have hdefault : defaultOf s.settings d = byDefault := by cases d <;> rfl
  have hpass : verdict s d f = .pass → forwardFrame d f s = passed := fun h => by
    have hjoin : joinFifo d f s = passed := by
      cases d <;> exact (ite_congr (eq_iff_iff.mpr Nat.not_lt).symm (fun _ => rfl) fun _ => rfl).trans (ite_not ..)
    rw [forwardFrame_of_pass h, hjoin]
  have hdrop : verdict s d f = .tableDrop → forwardFrame d f s = dropped := fun h => by
    rw [forwardFrame_of_tableDrop h]; cases d <;> rfl
  have hgated : verdict s d f = .gatedDrop → forwardFrame d f s = gated := fun h => by
    rw [forwardFrame_of_gatedDrop h]; cases d <;> rfl
  have hfallback : fallback → verdict s d f = defaultVerdict byDefault := fun h => by
    rw [← hdefault]
    exact verdict_of_default (h.imp_right fun h i => mt (hdecides _).mp (h i))
  refine ⟨fun h hd => hpass (by rw [hfallback h, hd]; rfl), fun h hd => hdrop (by rw [hfallback h, hd]; rfl),
    fun i hext hi hfirst => ?_⟩
  intro e gateIsOpen
  have hverdict : verdict s d f = entryVerdict s e :=
    verdict_of_first hext ((hdecides _).mpr hi) fun k hk => mt (hdecides _).mp (hfirst k hk)
  have hgate : gateOpen s e.gate = true ↔ gateIsOpen := by
    cases hg : e.gate with
    | line1 => simpa only [gateIsOpen, hg, gateOpen] using hflows .line1
    | line2 => simpa only [gateIsOpen, hg, gateOpen] using hflows .line2
    | either => simpa only [gateIsOpen, hg, gateOpen, Bool.or_eq_true] using or_congr (hflows .line1) (hflows .line2)
  refine ⟨fun ha => hpass ?_, fun ha => hdrop ?_, fun ha hopen => hpass ?_, fun ha hclosed => hgated ?_⟩
  · rw [hverdict, entryVerdict, ha]
  · rw [hverdict, entryVerdict, ha]
  · rw [hverdict, entryVerdict, ha]
    exact if_pos (hgate.mpr hopen)
  · rw [hverdict, entryVerdict, ha]
    exact if_neg (mt hgate.mp hclosed)

end Sys2Proof.Machine

namespace Sys2Proof.Machine

/-! ## The transmit ports: what each takes, completions, and bus-off (R162, R171 to R175, R195, R199) -/

/-! ### The ports' events -/

section
variable {s : State}

theorem exec_fieldPortTake_of_on (h : s.power.on = true) :
    exec .fieldPortTake s = .next (settle s (takeFieldPort s)) :=
  congrArg Host.Outcome.next (event_of_on h)

theorem exec_cabPortTake_of_on (h : s.power.on = true) :
    exec .cabPortTake s = .next (settle s (takeCabPort s)) :=
  congrArg Host.Outcome.next (event_of_on h)

theorem exec_completion_of_on (h : s.power.on = true) (k : Link) :
    exec (.transmissionCompletion k) s = .next (settle s (takeTransmission k s)) :=
  congrArg Host.Outcome.next (event_of_on h)

theorem exec_busOff_of_on (h : s.power.on = true) (k : Link) :
    exec (.busOff k) s = .next (settle s (enterBusOff k s)) :=
  congrArg Host.Outcome.next (event_of_on h)

theorem exec_busOffRecovery_of_on (h : s.power.on = true) (k : Link) :
    exec (.busOffRecovery k) s = .next (settle s (recoverBusOff k s)) :=
  congrArg Host.Outcome.next (event_of_on h)

/-! ### When a port is free (R171, R174, R175, R199) -/

theorem portsRun_iff (s : State) : portsRun s = true ↔ s.power.parked = false ∧ s.power.wakeDelay = none := by
  simp [portsRun]

theorem fieldPortFree_iff (s : State) :
    fieldPortFree s = true ↔ portsRun s = true ∧ s.forward.txField = none ∧ s.forward.fieldOff = false := by
  simp [fieldPortFree, and_assoc]

theorem cabPortFree_iff (s : State) :
    cabPortFree s = true ↔ portsRun s = true ∧ s.forward.txCab = none ∧ s.forward.cabOff = false := by
  simp [cabPortFree, and_assoc]

theorem takeFieldPort_of_unfree (h : ¬fieldPortFree s = true) : takeFieldPort s = s :=
  if_pos (by rw [Bool.eq_false_iff.mpr h]; rfl)

theorem takeCabPort_of_unfree (h : ¬cabPortFree s = true) : takeCabPort s = s :=
  if_pos (by rw [Bool.eq_false_iff.mpr h]; rfl)

/-! ### The field port's order (R162, R171) -/

/-- Neither a valve command nor a pump stop waits. -/
def NoneOwn (s : State) : Prop := s.valve.line1.slot = none ∧ s.valve.line2.slot = none ∧ s.pumpSlot = none

section
variable (hfree : fieldPortFree s = true)
include hfree

theorem takeFieldPort_of_line1 {st : Stage} (h : s.valve.line1.slot = some st) :
    takeFieldPort s = sendValve .line1 st s := by
  simp [takeFieldPort, hfree, h]

theorem takeFieldPort_of_line2 {st : Stage} (h1 : s.valve.line1.slot = none) (h2 : s.valve.line2.slot = some st) :
    takeFieldPort s = sendValve .line2 st s := by
  simp [takeFieldPort, hfree, h1, h2]

theorem takeFieldPort_of_pump {p : PumpStop} (h1 : s.valve.line1.slot = none) (h2 : s.valve.line2.slot = none)
    (hp : s.pumpSlot = some p) : takeFieldPort s = sendField (pumpFrame s p) false { s with pumpSlot := none } := by
  simp [takeFieldPort, hfree, h1, h2, hp]

theorem takeFieldPort_of_noneOwn (h : NoneOwn s) : takeFieldPort s = sendForwarded s := by
  obtain ⟨h1, h2, hp⟩ := h
  simp [takeFieldPort, hfree, h1, h2, hp]

end

theorem sendForwarded_of_holdup (h : s.power.holdup = true) : sendForwarded s = s := if_pos h

/-- Protected frames at the head are dropped and counted, and the first other frame goes (R162, R171). -/
theorem sendForwarded_of_first {dropped rest : List Frame} {f : Frame} (h : s.power.holdup = false)
    (hqueue : s.forward.toField = dropped ++ f :: rest) (hdropped : ∀ x ∈ dropped, isProtected s.cal x = true)
    (hf : ¬isProtected s.cal f = true) :
    sendForwarded s = sendField f true
      { s with forward := { s.forward with
          toField := rest
          countToField := addProtectedDrops dropped.length s.forward.countToField } } := by
  have hkept : s.forward.toField.dropWhile (isProtected s.cal) = f :: rest := by
    rw [hqueue, List.dropWhile_append_of_pos hdropped, List.dropWhile_cons_of_neg hf]
  have hlen : s.forward.toField.length - (f :: rest).length = dropped.length := by
    rw [hqueue, List.length_append, Nat.add_sub_cancel]
  rw [sendForwarded, h]
  simp only [hkept, hlen]
  rfl

/-- A FIFO of protected frames alone is emptied and counted (R162, R171). -/
theorem sendForwarded_of_protected (h : s.power.holdup = false)
    (hall : ∀ x ∈ s.forward.toField, isProtected s.cal x = true) :
    sendForwarded s =
      { s with forward := { s.forward with
          toField := []
          countToField := addProtectedDrops s.forward.toField.length s.forward.countToField } } := by
  have hkept : s.forward.toField.dropWhile (isProtected s.cal) = [] := List.dropWhile_eq_nil_iff.mpr hall
  rw [sendForwarded, h]
  simp only [hkept]
  rfl

/-! ### The cab port's order (R172) -/

theorem requestedLine_of_line1 {r : Reports} (h1 : r.lines.line1 = true)
    (h : r.lines.line2 = false ∨ r.lastLine ≠ some .line1) : requestedLine r = some .line1 := by
  unfold requestedLine
  cases h2 : r.lines.line2 with
  | false => rw [h1]
  | true => rw [h1]; exact if_neg (h.resolve_left (by simp [h2]))

theorem requestedLine_of_line2 {r : Reports} (h2 : r.lines.line2 = true)
    (h : r.lines.line1 = false ∨ r.lastLine = some .line1) : requestedLine r = some .line2 := by
  unfold requestedLine
  cases h1 : r.lines.line1 with
  | false => rw [h2]
  | true => rw [h2]; exact if_pos (h.resolve_left (by simp [h1]))

theorem requestedLine_of_none {r : Reports} (h1 : r.lines.line1 = false) (h2 : r.lines.line2 = false) :
    requestedLine r = none := by
  rw [requestedLine, h1, h2]

section
variable (hfree : cabPortFree s = true)
include hfree

theorem takeCabPort_of_response {r : Response} {rest : List Response} (h : s.port.responses = r :: rest) :
    takeCabPort s = sendCab r.frame false r.performs { s with port := { s.port with responses := rest } } := by
  simp [takeCabPort, hfree, h]

theorem takeCabPort_of_device (h : s.port.responses = []) (hdev : s.reports.device = true) :
    takeCabPort s =
      sendCab (deviceStatusFrame s) false none { s with reports := { s.reports with device := false } } := by
  simp [takeCabPort, hfree, h, hdev]

theorem takeCabPort_of_line {l : LineId} (h : s.port.responses = []) (hdev : s.reports.device = false)
    (hl : requestedLine s.reports = some l) : takeCabPort s = sendLineStatus l s := by
  simp [takeCabPort, hfree, h, hdev, hl]

theorem takeCabPort_of_noRequest (h : s.port.responses = []) (hdev : s.reports.device = false)
    (hl : requestedLine s.reports = none) : takeCabPort s = sendToCab s := by
  simp [takeCabPort, hfree, h, hdev, hl]

end

theorem sendToCab_of_first {f : Frame} {rest : List Frame} (h : s.power.holdup = false)
    (hqueue : s.forward.toCab = f :: rest) :
    sendToCab s = sendCab f true none { s with forward := { s.forward with toCab := rest } } := by
  rw [sendToCab, h, hqueue]

theorem sendToCab_of_rest (h : s.power.holdup = true ∨ s.forward.toCab = []) : sendToCab s = s := by
  rcases h with h | h
  · rw [sendToCab, h]
  · rw [sendToCab, h]
    cases s.power.holdup <;> rfl

end

/-- Settles O48: a free port takes the first of its sources that has something, in the order of R171 and R172. -/
theorem portsTakeByPriority : Obligations.PortsTakeByPriority := by
  unfold Obligations.PortsTakeByPriority
  refine ⟨fun s hon hrests => ?_, ?_⟩
  · have hstopped : ¬portsRun s = true := fun h => by
      obtain ⟨hpark, hwake⟩ := (portsRun_iff s).mp h
      exact hrests.elim (fun h => Bool.false_ne_true (hpark.symm.trans h)) (· hwake)
    rw [exec_fieldPortTake_of_on hon, exec_cabPortTake_of_on hon,
      takeFieldPort_of_unfree fun h => hstopped ((fieldPortFree_iff s).mp h).1,
      takeCabPort_of_unfree fun h => hstopped ((cabPortFree_iff s).mp h).1]
    exact ⟨rfl, rfl⟩
  · intro s hon hpark hwake w fieldFree cabFree field cab fieldSends cabSends own noOwn ids nine shielded counted
      takesLine
    have hrun : portsRun s = true := (portsRun_iff s).mpr ⟨hpark, hwake⟩
    have hfieldFree : fieldPortFree s = true ↔ fieldFree := (fieldPortFree_iff s).trans (and_iff_right hrun)
    have hcabFree : cabPortFree s = true ↔ cabFree := (cabPortFree_iff s).trans (and_iff_right hrun)
    have hshielded : ∀ f, isProtected s.cal f = true ↔ shielded f := isProtected_iff s.cal
    have hfield : ∀ {q}, takeFieldPort s = q → field = .next (settle s q) := fun hq =>
      hq ▸ exec_fieldPortTake_of_on hon
    have hcab : ∀ {q}, takeCabPort s = q → cab = .next (settle s q) := fun hq => hq ▸ exec_cabPortTake_of_on hon
    refine ⟨fun h => hfield (takeFieldPort_of_unfree (mt hfieldFree.mp h)), fun h => ?field,
      fun h => hcab (takeCabPort_of_unfree (mt hcabFree.mp h)), fun h => ?cab⟩
    case field =>
      have hfree := hfieldFree.mpr h
      have hforwards : ∀ {q}, noOwn → sendForwarded s = q → field = .next (settle s q) := fun hnone hq =>
        hfield ((takeFieldPort_of_noneOwn hfree hnone).trans hq)
      exact ⟨fun st h1 => hfield (takeFieldPort_of_line1 hfree h1),
        fun st h1 h2 => hfield (takeFieldPort_of_line2 hfree h1 h2),
        fun p h1 h2 hp => hfield (takeFieldPort_of_pump hfree h1 h2 hp),
        fun dropped f rest hnone hserves hqueue hdropped hf => hforwards hnone
          (sendForwarded_of_first hserves hqueue (fun x hx => (hshielded x).mpr (hdropped x hx)) (mt (hshielded f).mp hf)),
        fun hnone hserves hall => hforwards hnone
          (sendForwarded_of_protected hserves fun x hx => (hshielded x).mpr (hall x hx)),
        fun hnone hheld => hforwards hnone (sendForwarded_of_holdup hheld)⟩
    case cab =>
      have hfree := hcabFree.mpr h
      refine ⟨fun r rest hr => hcab (takeCabPort_of_response hfree hr), fun hr =>
        ⟨fun hdev => hcab (takeCabPort_of_device hfree hr hdev), fun hdev => ⟨fun h1 h2 => ?_, fun h2 h1 => ?_,
          fun h1 h2 => ?_⟩⟩⟩
      · exact hcab (takeCabPort_of_line hfree hr hdev (requestedLine_of_line1 h1 h2))
      · exact hcab (takeCabPort_of_line hfree hr hdev (requestedLine_of_line2 h2 h1))
      · have hqueue := takeCabPort_of_noRequest hfree hr hdev (requestedLine_of_none h1 h2)
        exact ⟨fun f rest hserves hf => hcab (hqueue.trans (sendToCab_of_first hserves hf)),
          fun hrests => hcab (hqueue.trans (sendToCab_of_rest hrests))⟩

/-! ### Completions (R171, R173) -/

section
variable {s : State} {t : Transmission}

theorem countForwarded_eq (d : Direction) (t : Transmission) (s : State) :
    countForwarded d t s = s.modCounters d fun c => if t.forwarded then addForwarded c else c := by
  unfold countForwarded
  cases t.forwarded with
  | true => rfl
  | false => cases d <;> rfl

theorem takeTransmission_field (hlink : s.forward.fieldOff = false) (ht : s.forward.txField = some t) :
    takeTransmission .field s = countForwarded .cabToField t { s with forward := { s.forward with txField := none } } := by
  simp only [takeTransmission, hlink, ht]

theorem takeTransmission_cab (hlink : s.forward.cabOff = false) (ht : s.forward.txCab = some t)
    (hperforms : t.performs = none) :
    takeTransmission .cab s = countForwarded .fieldToCab t { s with forward := { s.forward with txCab := none } } := by
  simp only [takeTransmission, hlink, ht, performCompletion, hperforms]

theorem takeTransmission_field_of_none (h : s.forward.fieldOff = true ∨ s.forward.txField = none) :
    takeTransmission .field s = s := by
  rcases h with h | h
  · simp only [takeTransmission, h]
  · rw [takeTransmission, h]
    cases s.forward.fieldOff <;> rfl

theorem takeTransmission_cab_of_none (h : s.forward.cabOff = true ∨ s.forward.txCab = none) :
    takeTransmission .cab s = s := by
  rcases h with h | h
  · simp only [takeTransmission, h]
  · rw [takeTransmission, h]
    cases s.forward.cabOff <;> rfl

/-! ### Recovery (R174) -/

theorem heldIsProtected_iff (s : State) :
    heldIsProtected s = true ↔
      ∃ t, s.forward.txField = some t ∧ t.forwarded = true ∧ isProtected s.cal t.frame = true := by
  unfold heldIsProtected
  split
  · next h => simp [h]
  · next t h => simp [h]

theorem recoverBusOff_field_of_held (hoff : s.forward.fieldOff = true) (h : heldIsProtected s = true) :
    recoverBusOff .field s =
      { s with forward := { s.forward with
          fieldOff := false
          txField := none
          countToField := addProtectedDrops 1 s.forward.countToField } } :=
  if_pos (by rw [hoff, h]; rfl)

theorem recoverBusOff_field_of_other (h : ¬(s.forward.fieldOff = true ∧ heldIsProtected s = true)) :
    recoverBusOff .field s = { s with forward := { s.forward with fieldOff := false } } :=
  if_neg (mt (Bool.and_eq_true_iff.mp) h)

end

/-- Settles O49: a completion empties its port and counts a forwarded frame, and bus-off and recovery set and clear the
link's state, with the second protected test of a held frame. -/
theorem completionsAndBusOff : Obligations.CompletionsAndBusOff := by
  unfold Obligations.CompletionsAndBusOff
  intro s hon w done risen recovers ids nine heldShielded
  have hdone : ∀ {k x}, takeTransmission k s = { s with forward := x } → done k x := fun hq =>
    (exec_completion_of_on hon _).trans (congrArg (Host.Outcome.next <| settle s ·) hq)
  have hrecovers : ∀ {k x}, recoverBusOff k s = { s with forward := x } → recovers k x := fun hq =>
    (exec_busOffRecovery_of_on hon _).trans (congrArg (Host.Outcome.next <| settle s ·) hq)
  have hheld : s.forward.fieldOff = true ∧ heldIsProtected s = true ↔ heldShielded := by
    simp only [heldIsProtected_iff, isProtected_iff]
    exact Iff.rfl
  refine ⟨fun t hlink ht => hdone ?_, fun t hlink ht hperforms => hdone ?_,
    fun h => hdone (takeTransmission_field_of_none h), fun h => hdone (takeTransmission_cab_of_none h),
    exec_busOff_of_on hon .field, exec_busOff_of_on hon .cab, hrecovers rfl,
    fun h => hrecovers (recoverBusOff_field_of_other (mt hheld.mp h)), fun h => hrecovers ?_⟩
  · rw [takeTransmission_field hlink ht, countForwarded_eq]
    rfl
  · rw [takeTransmission_cab hlink ht hperforms, countForwarded_eq]
    rfl
  · obtain ⟨hoff, hprotected⟩ := hheld.mpr h
    exact recoverBusOff_field_of_held hoff hprotected

end Sys2Proof.Machine

namespace Sys2Proof.Machine

/-! ## The bytes of the fields and of the command frames (R178, R192) -/

/-- A field holds the base-256 digits of its value, the least first (R192). -/
theorem leBytes_eq_digits (w n : Nat) :
    leBytes w n = (List.range w).map fun i => (BitVec.ofNat 8 (n / 256 ^ i) : Byte) := by
  induction w generalizing n with
  | zero => rfl
  | succ k ih =>
    have hshift : ∀ i, n / 256 ^ (i + 1) = n / 256 / 256 ^ i := fun i => by rw [pow_succ', Nat.div_div_eq_div_mul]
    rw [leBytes, ih, List.range_succ_eq_map, List.map_cons, List.map_map]
    simp only [Function.comp_def, Nat.succ_eq_add_one, hshift, pow_zero, Nat.div_one]

/-- A signed field of `w` bytes is read modulo `256 ^ w`: two's complement (R192). -/
theorem ofSigned_bytes (w : Nat) (x : Int) : ofSigned (8 * w) x = (x % 256 ^ w).toNat := by
  rw [ofSigned, pow_mul]
  norm_num

/-- Settles O5: fields are base-256 digits, each frame lists the fields of its row, and its bytes read back. -/
theorem commandDecodesItsFrame : Obligations.CommandDecodesItsFrame := by
  unfold Obligations.CommandDecodesItsFrame
  intro bytes signed
  have hbytes : bytes = leBytes := funext₂ fun w n => (leBytes_eq_digits w n).symm
  have hsigned : signed = fun w x => leBytes w (ofSigned (8 * w) x) := funext₂ fun w x => by
    rw [ofSigned_bytes, ← hbytes]
  clear_value signed bytes
  subst hsigned hbytes
  refine ⟨fun n => ⟨rfl, rfl, rfl, rfl⟩, fun b => ?yesNo, fun x => ⟨?_, ?_, ?_, ?clamped⟩, fun c tag => ?frame,
    fun c tag extra hwf htag => ⟨dataByte_zero_frameData c tag extra, dataByte_one_frameData htag c extra,
      commandOfData_frameData hwf tag extra⟩⟩
  case yesNo => cases b <;> rfl
  case clamped =>
    have hclamp : max (-2147483648) (min 2147483647 x) =
        if x < -2147483648 then -2147483648 else if 2147483647 < x then 2147483647 else x := by omega
    rw [s4Clamped, hclamp]
    rfl
  case frame => cases c <;> exact ⟨rfl, rfl⟩
  all_goals exact if_congr (and_congr_right fun _ => by omega) rfl rfl

end Sys2Proof.Machine

namespace Sys2Proof.Machine

/-! ## What the command port answers before the owner (R177 to R181, R192) -/

/-! ### Lengths (R192) -/

/-- The bytes that the parameters of each command code take (R192; entries 27 and 42). -/
def parameterBytes : List (Nat × Nat) :=
  [(0x10, 6), (0x11, 2), (0x12, 1), (0x13, 1), (0x14, 1), (0x15, 1), (0x16, 1), (0x17, 1), (0x18, 0), (0x19, 1),
   (0x1A, 1), (0x20, 17), (0x21, 4), (0x22, 1), (0x28, 10), (0x29, 1), (0x2A, 1), (0x30, 4), (0x31, 4), (0x32, 0),
   (0x40, 0), (0x41, 3), (0x42, 15), (0x43, 17), (0x44, 0), (0x45, 18), (0x46, 0), (0x47, 0), (0x50, 13), (0x51, 1),
   (0x52, 1), (0x53, 0), (0x54, 0), (0x60, 4), (0x61, 7), (0x62, 2), (0x63, 0), (0x64, 0), (0x65, 1), (0x66, 0),
   (0x67, 0)]

theorem commandWidths_of_mem : ∀ x ∈ parameterBytes, (commandWidths x.1).map List.sum = some x.2 := by decide

theorem knownCode_iff (code : Nat) : knownCode code = true ↔ code ∈ parameterBytes.map fun x => x.1 := by
  constructor
  · unfold knownCode commandWidths
    split <;> simp [parameterBytes]
  · intro h
    obtain ⟨x, hx, rfl⟩ := List.mem_map.mp h
    obtain ⟨ws, hws, -⟩ := Option.map_eq_some_iff.mp (commandWidths_of_mem x hx)
    rw [knownCode, hws]
    rfl

/-- Fields do not read from fewer bytes than their widths take. -/
theorem readFields_of_short {ws : List Nat} {bytes : List Byte} (h : bytes.length < ws.sum) :
    readFields ws bytes = none := by
  induction ws generalizing bytes with
  | nil => exact absurd h (Nat.not_lt_zero _)
  | cons w ws ih =>
    rw [List.sum_cons] at h
    rw [readFields]
    split
    · rfl
    · rw [ih (by rw [List.length_drop]; omega), Option.map_none]

/-- A frame with fewer bytes than its parameters take spells no command (R178). -/
theorem commandOfData_of_short {data : List Byte} {n : Nat} (hn : (dataByte data 0, n) ∈ parameterBytes)
    (h : data.length - 2 < n) : commandOfData data = none := by
  obtain ⟨ws, hws, rfl⟩ := Option.map_eq_some_iff.mp (commandWidths_of_mem _ hn)
  rw [commandOfData, parseCommand, hws, Option.bind_some, readFields_of_short (by rwa [List.length_drop])]
  rfl

/-- The first of the lengths that holds `n`, taken from the least. -/
theorem find?_holds_cons (n k : Nat) (ks : List Nat) :
    ((k :: ks).find? fun k => decide (n ≤ k)).getD 64 =
      if n ≤ k then k else (ks.find? fun k => decide (n ≤ k)).getD 64 := by
  rw [List.find?_cons]
  by_cases h : n ≤ k <;> simp [h]

/-- The FD format's lengths above 8 bytes, in steps (R192). -/
theorem paddedLength_eq (n : Nat) :
    paddedLength n =
      if n ≤ 8 then n else if n ≤ 12 then 12 else if n ≤ 16 then 16 else if n ≤ 20 then 20 else if n ≤ 24 then 24
      else if n ≤ 32 then 32 else if n ≤ 48 then 48 else 64 := by
  simp only [paddedLength, find?_holds_cons, List.find?_nil, Option.getD_none]

/-! ### The port's decision (R178) -/

section
variable {s : State} {f : Frame}

theorem freePlaces_eq_of_none (s : State) :
    freePlaces s = 4 - s.port.responses.length - (if s.port.inFlight = none then 0 else 1) := by
  rw [freePlaces]
  cases s.port.inFlight <;> rfl

/-- In normal service a frame at the command identifier is taken by its code, its tag and what its data spell (R161,
R178). -/
theorem exec_cabFrame_of_command (h : CabOpen s) (hext : f.extended = true)
    (hid : f.ident = blockStart s.port.address) :
    exec (.cabFrameArrival f) s =
      .next (settle s (takeCommandFrame (dataByte f.data 0) (dataByte f.data 1) (commandOfData f.data) s)) := by
  have hblock : inBlock s f = true := (inBlock_iff s f).mpr ⟨hext, hid.ge, by omega⟩
  have hcommand : atCommandIdentifier s f = true := by simp [atCommandIdentifier, hext, hid]
  rw [exec_cabFrame_of_on h.supplied, receiveCab_of_open h, handleCabFrame, if_pos hblock, if_pos hcommand]

theorem takeCommandFrame_of_full (h : freePlaces s = 0) (code tag : Nat) (c : Option Command) :
    takeCommandFrame code tag c s = remember code .none s := if_pos h

/-- An answer of the port itself is placed and remembered, and nothing else changes. -/
theorem takeCommandFrame_of_plain {code : Nat} {c : Option Command} {st : Status} (hfree : freePlaces s ≠ 0)
    (h : decideCommand code c s = (s, plain st)) (tag : Nat) :
    takeCommandFrame code tag c s = replied code tag st [] s := by
  rw [takeCommandFrame, if_neg hfree, h]
  rfl

theorem decideCommand_of_unknown {code : Nat} (h : ¬knownCode code = true) (c : Option Command) :
    decideCommand code c s = (s, plain .unknown) := by
  unfold decideCommand
  rw [Bool.eq_false_iff.mpr h]
  rfl

theorem decideCommand_of_busy {code : Nat} (hknown : knownCode code = true) (h : portBusy s code = true)
    (c : Option Command) : decideCommand code c s = (s, plain .busy) := by
  unfold decideCommand
  rw [hknown, h]
  rfl

theorem decideCommand_of_short {code : Nat} (hknown : knownCode code = true) (h : portBusy s code = false) :
    decideCommand code none s = (s, plain .parameter) := by
  unfold decideCommand
  rw [hknown, h]
  rfl

theorem takenInFlight_iff (code : Nat) : takenInFlight code = true ↔ code = 0x14 ∨ code = 0x16 ∨ code = 0x18 := by
  simp only [takenInFlight, Bool.or_eq_true, beq_iff_eq, or_assoc]

/-- What holds the port against a code (R178 step 3, R181). -/
theorem portBusy_iff (s : State) (code : Nat) :
    portBusy s code = true ↔
      (s.port.inFlight ≠ none ∧ ¬(code = 0x14 ∨ code = 0x16 ∨ code = 0x18)) ∨ s.port.pendingReset ≠ none := by
  rw [← takenInFlight_iff, portBusy, Bool.or_eq_true, Bool.and_eq_true, Option.isSome_iff_ne_none,
    Option.isSome_iff_ne_none, Bool.not_eq_true', Bool.not_eq_true]

end

/-- Settles O7: with room for an answer, the first of the port's tests that a frame meets gives its answer. -/
theorem portAnswersBeforeOwner : Obligations.PortAnswersBeforeOwner := by
  unfold Obligations.PortAnswersBeforeOwner
  refine ⟨rfl, fun address code tag st data => ?frame, fun code tag st data s => rfl, fun f s hopen hext hid => ?port⟩
  case frame =>
    intro whole n padded
    rw [responseFrame, ownCabFrame, padData, paddedLength_eq]
    rfl
  case port =>
    intro code tag free layouts known answer
    have hexec := exec_cabFrame_of_command hopen hext hid
    have hfree : freePlaces s = free := freePlaces_eq_of_none s
    have hknown : knownCode code = true ↔ known := knownCode_iff code
    have hanswer : ∀ st, 0 < free → decideCommand code (commandOfData f.data) s = (s, plain st) → answer st :=
      fun st hroom hdecide => hexec.trans <| congrArg (Host.Outcome.next <| settle s ·) <|
        takeCommandFrame_of_plain (hfree ▸ hroom.ne') hdecide tag
    refine ⟨fun hfull => ?full, fun hroom hnot => hanswer _ hroom (decideCommand_of_unknown (mt hknown.mp hnot) _),
      fun hroom hk hflight h14 h16 h18 => hanswer _ hroom (decideCommand_of_busy (hknown.mpr hk) ?flight _),
      fun hroom hk hreset => hanswer _ hroom (decideCommand_of_busy (hknown.mpr hk) ?reset _),
      fun n hroom htaken hreset hn hshort => hanswer _ hroom ?short⟩
    case full => rw [hexec, takeCommandFrame_of_full (hfree.trans hfull)]; rfl
    case flight => exact (portBusy_iff s code).mpr (.inl ⟨hflight, not_or.mpr ⟨h14, not_or.mpr ⟨h16, h18⟩⟩⟩)
    case reset => exact (portBusy_iff s code).mpr (.inr hreset)
    case short =>
      have hidle : portBusy s code = false := by
        rw [← Bool.not_eq_true, portBusy_iff]
        rintro (⟨hflight, hcode⟩ | hpending)
        · exact htaken.elim hflight hcode
        · exact hpending hreset
      rw [commandOfData_of_short hn hshort]
      exact decideCommand_of_short (hknown.mpr (List.mem_map.mpr ⟨_, hn, rfl⟩)) hidle

end Sys2Proof.Machine

namespace Sys2Proof.Machine

/-! ## The time base and the step on an empty queue (R185; spec/00, 6.7) -/

/-! ### The time base -/

theorem advanceTo_awake_of_running {s : State} (hp : s.power.parked = false) {t : Micros} (h : s.now ≤ t) :
    (advanceTo t s).awake = s.awake + (t - s.now) := by
  simp [advanceTo, hp, max_eq_right h]

/-- Within a second the count stands. -/
theorem advanceTo_count_of_same {t : Micros} {s : State} (hc : s.clock.count ≤ 4294967295)
    (h : (advanceTo t s).now / 1000000 = s.now / 1000000) : (advanceTo t s).clock.count = s.clock.count := by
  have hcount : (advanceTo t s).clock.count =
    (s.clock.count + ((advanceTo t s).now / 1000000 - s.now / 1000000)) % 4294967296 := rfl
  rw [hcount, h]
  omega

/-- At the next second the count rises by one, from its greatest value to 0 (R185). -/
theorem advanceTo_count_of_next {t : Micros} {s : State} (hc : s.clock.count ≤ 4294967295)
    (h : (advanceTo t s).now / 1000000 = s.now / 1000000 + 1) :
    (advanceTo t s).clock.count = if s.clock.count = 4294967295 then 0 else s.clock.count + 1 := by
  have hcount : (advanceTo t s).clock.count =
    (s.clock.count + ((advanceTo t s).now / 1000000 - s.now / 1000000)) % 4294967296 := rfl
  rw [hcount, h]
  split <;> omega

/-- Two instants reached in turn are the later one reached (spec/00, 6.7). -/
theorem advanceTo_advanceTo (t u : Micros) (s : State) : advanceTo u (advanceTo t s) = advanceTo (max t u) s := by
  have hnow : max (max s.now t) u = max s.now (max t u) := max_assoc ..
  have hfirst : s.now ≤ max s.now t := le_max_left ..
  have hsecond : max s.now t ≤ max s.now (max t u) := hnow ▸ le_max_left ..
  have hsum : ∀ {a b c : Nat}, a ≤ b → b ≤ c → ∀ n, n + (b - a) + (c - b) = n + (c - a) := by omega
  have hawake : s.awake + (if s.power.parked then 0 else max s.now t - s.now)
      + (if s.power.parked then 0 else max s.now (max t u) - max s.now t)
        = s.awake + (if s.power.parked then 0 else max s.now (max t u) - s.now) := by
    split
    · rfl
    · exact hsum hfirst hsecond _
  have hcount : ((s.clock.count + (max s.now t / 1000000 - s.now / 1000000)) % 4294967296
      + (max s.now (max t u) / 1000000 - max s.now t / 1000000)) % 4294967296
        = (s.clock.count + (max s.now (max t u) / 1000000 - s.now / 1000000)) % 4294967296 := by
    rw [Nat.mod_add_mod, hsum (Nat.div_le_div_right hfirst) (Nat.div_le_div_right hsecond)]
  simp only [advanceTo, hnow, hawake, hcount]

/-! ### When an event is due (entry 38) -/

theorem timerDue_iff (timer : Timer) (clock : Micros) : timerDue timer clock = true ↔ ∃ d, timer = some d ∧ d ≤ clock :=
  ⟨fun h => by
    cases timer with
    | none => cases h
    | some d => exact ⟨d, rfl, of_decide_eq_true h⟩, timerDue_of_due⟩

section
variable (s : State) (l : LineId)

theorem overflowDue_iff :
    overflowDue s l = true ↔ s.power.parked = false ∧ (s.pulse.get l).timerStart + 2031616 ≤ s.awake ∧
      ((s.pulse.get l).flow ≠ 0 ∨ (s.pulse.get l).periodStart = true) := by
  have hcount : overflowCount s.awake (s.pulse.get l) = 31 ↔ (s.pulse.get l).timerStart + 2031616 ≤ s.awake := by
    unfold overflowCount
    simp only [Micros] at *
    omega
  simp only [overflowDue, hcount, Bool.and_eq_true, Bool.or_eq_true, Bool.not_eq_true', decide_eq_true_eq, and_assoc]

theorem tickDue_iff : tickDue s l = true ↔ s.power.parked = false ∧ (s.line.get l).nextTick ≤ s.awake := by
  simp [tickDue]

theorem noFlowDue_iff :
    noFlowDue s l = true ↔ s.power.parked = false ∧ (∃ d, (s.line.get l).noFlow = some d ∧ d ≤ s.awake) ∧
      (s.lineState l = .flowing ∨ s.lineState l = .slowdown) := by
  rw [noFlowDue, Bool.and_eq_true, Bool.and_eq_true, Bool.not_eq_true', timerDue_iff, LineState.flows_iff, and_comm]

theorem airClearDue_iff :
    airClearDue s l = true ↔ s.power.parked = false ∧ ∃ d, (s.line.get l).airClear = some d ∧ d ≤ s.awake := by
  rw [airClearDue, Bool.and_eq_true, Bool.not_eq_true', timerDue_iff, and_comm]

theorem airHoldDue_iff :
    airHoldDue s l = true ↔ s.power.parked = false ∧ (∃ d, (s.line.get l).airHold = some d ∧ d ≤ s.awake) ∧
      s.lineState l = .airHold := by
  rw [airHoldDue, Bool.and_eq_true, Bool.and_eq_true, Bool.not_eq_true', timerDue_iff, decide_eq_true_eq, and_comm]

theorem airSilenceDue_iff :
    airSilenceDue s l = true ↔ s.power.parked = false ∧ ∃ d, (s.line.get l).airSilence = some d ∧ d ≤ s.awake := by
  rw [airSilenceDue, Bool.and_eq_true, Bool.not_eq_true', timerDue_iff, and_comm]

theorem reportDue_iff :
    reportDue s l = true ↔ s.power.parked = false ∧ ∃ d, (s.line.get l).report = some d ∧ d ≤ s.awake := by
  rw [reportDue, Bool.and_eq_true, Bool.not_eq_true', timerDue_iff, and_comm]

theorem confirmDue_iff :
    confirmDue s l = true ↔ s.power.parked = false ∧ (∃ d, (s.valve.get l).confirmTimer = some d ∧ d ≤ s.awake) ∧
      (s.valve.get l).confirmed = false ∧ (s.valve.get l).escalated = false := by
  rw [confirmDue, Bool.and_eq_true, Bool.and_eq_true, Bool.and_eq_true, Bool.not_eq_true', Bool.not_eq_true',
    Bool.not_eq_true', timerDue_iff, and_comm, and_assoc]

theorem retryDue_iff :
    retryDue s l = true ↔ s.power.parked = false ∧ (∃ d, (s.valve.get l).retryTimer = some d ∧ d ≤ s.awake) ∧
      (s.valve.get l).escalated = true := by
  rw [retryDue, Bool.and_eq_true, Bool.and_eq_true, Bool.not_eq_true', timerDue_iff, and_comm]

end

section
variable (s : State)

theorem relockDue_iff :
    relockDue s = true ↔ (∃ c, s.lock.state = .unlocked c) ∧ ∃ d, s.lock.relock = some d ∧ d ≤ s.now := by
  have hunlocked : (unlockingCredential s.lock.state).isSome = true ↔ ∃ c, s.lock.state = .unlocked c := by
    cases s.lock.state <;> simp [unlockingCredential]
  rw [relockDue, Bool.and_eq_true, timerDue_iff, hunlocked]

theorem requestedLine_isSome_iff (r : Reports) :
    (requestedLine r).isSome = true ↔ r.lines.line1 = true ∨ r.lines.line2 = true := by
  unfold requestedLine
  cases r.lines.line1 <;> cases r.lines.line2
  case true.true =>
    dsimp only
    split <;> simp
  all_goals simp

/-- The field port waits for a frame of its slots, or of its FIFO out of holdup (R171, R175). -/
theorem fieldPortWaits_iff :
    fieldPortWaits s = true ↔ (s.power.parked = false ∧ s.power.wakeDelay = none) ∧ s.forward.txField = none ∧
      s.forward.fieldOff = false ∧
        (s.valve.line1.slot ≠ none ∨ s.valve.line2.slot ≠ none ∨ s.pumpSlot ≠ none ∨
          (s.power.holdup = false ∧ s.forward.toField ≠ [])) := by
  simp only [fieldPortWaits, Bool.and_eq_true, fieldPortFree_iff, portsRun_iff, Bool.or_eq_true,
    Option.isSome_iff_ne_none, Bool.not_eq_true', List.isEmpty_eq_false_iff, and_assoc, or_assoc]

/-- The cab port waits for a frame of its own, or of its FIFO out of holdup (R172, R195). -/
theorem cabPortWaits_iff :
    cabPortWaits s = true ↔ (s.power.parked = false ∧ s.power.wakeDelay = none) ∧ s.forward.txCab = none ∧
      s.forward.cabOff = false ∧
        (s.port.responses ≠ [] ∨ s.reports.device = true ∨ s.reports.lines.line1 = true ∨
          s.reports.lines.line2 = true ∨ (s.power.holdup = false ∧ s.forward.toCab ≠ [])) := by
  simp only [cabPortWaits, Bool.and_eq_true, cabPortFree_iff, portsRun_iff, Bool.or_eq_true, requestedLine_isSome_iff,
    Bool.not_eq_true', List.isEmpty_eq_false_iff, and_assoc, or_assoc]

end

/-! ### The event that an idle step queues (entries 3 and 38) -/

/-- A list of events says of each, in words, when the model's list takes it as due. -/
def DescribesEvents : List (Bool × Instr) → List (Prop × Instr) → Prop :=
  List.Forall₂ fun x e => (x.1 = true ↔ e.1) ∧ x.2 = e.2

theorem DescribesEvents.find?_eq_none {xs : List (Bool × Instr)} {es : List (Prop × Instr)} (h : DescribesEvents xs es)
    (hnone : ∀ e ∈ es, ¬e.1) : xs.find? (·.1) = none := by
  induction h with
  | nil => rfl
  | cons hx _ ih =>
    obtain ⟨hnot, hrest⟩ := List.forall_mem_cons.mp hnone
    rw [List.find?_cons_of_neg (mt hx.1.mp hnot), ih hrest]

theorem DescribesEvents.find?_eq_some {xs : List (Bool × Instr)} {earlier later : List (Prop × Instr)}
    {e : Prop × Instr} (h : DescribesEvents xs (earlier ++ e :: later)) (hnone : ∀ x ∈ earlier, ¬x.1) (he : e.1) :
    (xs.find? (·.1)).map (·.2) = some e.2 := by
  induction earlier generalizing xs with
  | nil =>
    cases h with
    | cons hx _ => rw [List.find?_cons_of_pos (hx.1.mpr he), Option.map_some, hx.2]
  | cons a rest ih =>
    obtain ⟨hnot, hrest⟩ := List.forall_mem_cons.mp hnone
    cases h with
    | cons hx htail => rw [List.find?_cons_of_neg (mt hx.1.mp hnot), ih htail hrest]

theorem step_of_empty {s : State} (h : s.pending = []) : step s = .next (idle s) := by
  unfold step
  rw [h]

theorem idle_of_off {s : State} (h : s.power.on = false) : idle s = s := by
  rw [idle, h, if_neg Bool.false_ne_true]

theorem idle_of_rests {s : State} (hon : s.power.on = true) (h : dueEvent s = none) :
    idle s = advanceTo (s.now + 1) s := by
  rw [idle, if_pos hon, h]

theorem idle_of_due {s : State} {i : Instr} (hon : s.power.on = true) (h : dueEvent s = some i) :
    idle s = { s with pending := [i] } := by
  rw [idle, if_pos hon, h]

/-- Settles O26: reaching an instant is additive, and the idle step takes the first event whose condition holds. -/
theorem timeBaseAndIdleStep : Obligations.TimeBaseAndIdleStep := by
  unfold Obligations.TimeBaseAndIdleStep
  refine ⟨fun t u s => ?time, fun s hempty => ?idle⟩
  case time =>
    exact ⟨rfl, rfl, fun hp => advanceTo_awake_of_parked hp t, fun hp h => advanceTo_awake_of_running hp h,
      fun hc => ⟨advanceTo_count_of_same hc, advanceTo_count_of_next hc⟩, advanceTo_advanceTo t u s,
      fun l hon => next_timedEvent hon rfl⟩
  case idle =>
    intro due runs ofLine portsRun fieldWaits cabWaits events
    have hline : ∀ l, DescribesEvents (lineEvents s l) (ofLine l) := fun l =>
      .cons ⟨overflowDue_iff s l, rfl⟩ <| .cons ⟨tickDue_iff s l, rfl⟩ <| .cons ⟨noFlowDue_iff s l, rfl⟩ <|
      .cons ⟨airClearDue_iff s l, rfl⟩ <| .cons ⟨airHoldDue_iff s l, rfl⟩ <| .cons ⟨airSilenceDue_iff s l, rfl⟩ <|
      .cons ⟨reportDue_iff s l, rfl⟩ <| .cons ⟨confirmDue_iff s l, rfl⟩ <| .cons ⟨retryDue_iff s l, rfl⟩ .nil
    have hevents : DescribesEvents (ownEvents s) events :=
      List.rel_append (List.rel_append (hline .line1) (hline .line2)) <|
      .cons ⟨relockDue_iff s, rfl⟩ <| .cons ⟨timerDue_iff _ _, rfl⟩ <| .cons ⟨fieldPortWaits_iff s, rfl⟩ <|
      .cons ⟨cabPortWaits_iff s, rfl⟩ .nil
    rw [step_of_empty hempty]
    refine ⟨fun hoff => congrArg _ (idle_of_off hoff), fun hon hnone => congrArg _ (idle_of_rests hon ?_),
      fun earlier e later hon hsplit hnone he => congrArg _ (idle_of_due hon ?_)⟩
    · rw [dueEvent, hevents.find?_eq_none hnone]
      rfl
    · rw [hsplit] at hevents
      exact hevents.find?_eq_some hnone he

end Sys2Proof.Machine

namespace Sys2Proof.Machine

/-! ## Settings, clock and device conditions (R182, R184, R185, R189, R190) -/

/-! ### The table of settings (R182) -/

theorem lineOfNumber_eq_none_iff (n : Nat) : lineOfNumber n = none ↔ n ≠ 1 ∧ n ≠ 2 := by
  refine ⟨fun h => ⟨?_, ?_⟩, fun h => lineOfNumber_eq_none h.1 h.2⟩
  all_goals
    rintro rfl
    cases h

theorem settingOf_global_eq_none_iff (line : Nat) (sel : SettingSel) : settingOf.global line sel = none ↔ line ≠ 0 := by
  simp [settingOf.global]

theorem settingOf_perLine_eq_none_iff (line : Nat) (sel : LineId → SettingSel) :
    settingOf.perLine line sel = none ↔ line ≠ 1 ∧ line ≠ 2 := by
  rw [settingOf.perLine, Option.map_eq_none_iff, lineOfNumber_eq_none_iff]

/-- A setting of the part takes line 0, one of a line takes 1 or 2, and there is none above 8. -/
theorem settingOf_eq_none_iff (setting line : Nat) :
    settingOf setting line = none ↔
      8 < setting ∨ (setting ∈ [0, 1, 6, 7, 8] ∧ line ≠ 0) ∨ (setting ∈ [2, 3, 4, 5] ∧ line ≠ 1 ∧ line ≠ 2) := by
  match setting with
  | 0 | 1 | 6 | 7 | 8 => simpa [settingOf] using settingOf_global_eq_none_iff line _
  | 2 | 3 | 4 | 5 => simpa [settingOf] using settingOf_perLine_eq_none_iff line _
  | n + 9 => simp [settingOf]

theorem DefaultAction.code_eq (a : DefaultAction) : (a.code : Int) = if a = .pass then 0 else 1 := by
  cases a <;> rfl

/-- A setting reads back the value of its range that it was given. -/
theorem getSetting_putSetting_same (sel : SettingSel) {v : Int} (hlo : (settingRange sel).1 ≤ v)
    (hhi : v ≤ (settingRange sel).2) (st : Settings) : getSetting (putSetting sel v st) sel = v := by
  cases sel with
  | address | reportInterval | airHold =>
    simp only [settingRange] at hlo
    exact Int.toNat_of_nonneg (by omega)
  | noFlow l =>
    simp only [settingRange] at hlo
    simp only [getSetting, putSetting, modLineSettings, PerLine.get_set_same]
    omega
  | softStart l | slowdown l | closeAhead l => simp only [getSetting, putSetting, modLineSettings, PerLine.get_set_same]
  | toField | toCab =>
    simp only [settingRange] at hlo hhi
    obtain rfl | rfl : v = 0 ∨ v = 1 := by omega
    all_goals rfl

/-- A setting that is written leaves every other one. -/
theorem getSetting_putSetting_other {sel other : SettingSel} (h : other ≠ sel) (v : Int) (st : Settings) :
    getSetting (putSetting sel v st) other = getSetting st other := by
  cases sel with
  | address | reportInterval | airHold | toField | toCab =>
    cases other <;> solve | rfl | exact absurd rfl h
  | noFlow l | softStart l | slowdown l | closeAhead l =>
    cases other <;> simp only [getSetting, putSetting, modLineSettings, PerLine.get_set]
    all_goals
      split
      · next hl => subst hl; solve | rfl | exact absurd rfl h
      · rfl

theorem clampSetting_bounds (sel : SettingSel) (v : Int) :
    (settingRange sel).1 ≤ clampSetting sel v ∧ clampSetting sel v ≤ (settingRange sel).2 :=
  clampInt_bounds (by cases sel <;> simp [settingRange]) v

/-! ### WRITE SETTING (R182) -/

theorem yesNoOfCode_of_le {persist : Nat} (h : persist ≤ 1) : yesNoOfCode persist = some (decide (persist = 1)) := by
  obtain rfl | rfl : persist = 0 ∨ persist = 1 := by omega
  all_goals rfl

theorem yesNoOfCode_of_gt {persist : Nat} (h : 1 < persist) : yesNoOfCode persist = none := by
  rw [Option.eq_none_iff_forall_ne_some]
  intro b hb
  have := yesNoOfCode_eq_some_iff.mp hb
  have := b.toNat_le
  omega

theorem ownerWriteSetting_of_named {setting line persist : Nat} {sel : SettingSel} (hsel : settingOf setting line = some sel)
    (hpersist : persist ≤ 1) (value : Int) (s : State) :
    let stored := if persist = 1 then putSetting sel (clampSetting sel value) s.storedSettings else s.storedSettings
    ownerWriteSetting setting line value persist s =
      ({ s with settings := putSetting sel (clampSetting sel value) s.settings, storedSettings := stored },
        .reply .ok (b1 setting ++ b1 line ++ s4 (clampSetting sel value) ++ s4 (getSetting stored sel))) := by
  obtain ⟨hlo, hhi⟩ := clampSetting_bounds sel value
  simp only [ownerWriteSetting, hsel, yesNoOfCode_of_le hpersist, decide_eq_true_eq,
    getSetting_putSetting_same sel hlo hhi]

theorem ownerWriteSetting_of_unnamed {setting line persist : Nat} (h : settingOf setting line = none ∨ 1 < persist)
    (value : Int) (s : State) : ownerWriteSetting setting line value persist s = (s, plain .parameter) := by
  unfold ownerWriteSetting
  split
  · next hsel hkeep =>
    rcases h with h | h
    · rw [h] at hsel
      cases hsel
    · rw [yesNoOfCode_of_gt h] at hkeep
      cases hkeep
  · rfl

/-! ### The other commands -/

theorem ownerReadSetting_of_named {setting line : Nat} {sel : SettingSel} (h : settingOf setting line = some sel)
    (s : State) : ownerReadSetting setting line s =
      (s, .reply .ok (s4 (getSetting s.settings sel) ++ s4 (getSetting s.storedSettings sel))) := by
  rw [ownerReadSetting, h]

theorem ownerReadSetting_of_unnamed {setting line : Nat} (h : settingOf setting line = none) (s : State) :
    ownerReadSetting setting line s = (s, plain .parameter) := by
  rw [ownerReadSetting, h]

theorem ownerClearCondition_of_noRank {rank : Nat} (h : rank < 1 ∨ 8 < rank) (s : State) :
    ownerClearCondition rank s = (s, plain .parameter) := if_pos h

theorem ownerClearCondition_of_other {rank : Nat} (h1 : 1 ≤ rank) (h8 : rank ≤ 8) (h4 : rank ≠ 4) (s : State) :
    ownerClearCondition rank s = (s, plain .state) := by
  rw [ownerClearCondition, if_neg (by omega), if_neg h4]

/-- Settles O50: each command's owner answers as its rule says, from the table of settings. -/
theorem settingsClockAndConditions : Obligations.SettingsClockAndConditions := by
  unfold Obligations.SettingsClockAndConditions
  intro tag s hready answers range
  have hrange : ∀ sel value, max (range sel).1 (min (range sel).2 value) = clampSetting sel value := fun sel value => by
    cases sel <;> rfl
  have hreply : ∀ {c : Command} {st data q}, runCommand c s = (q, .reply st data) →
      (.next (takeCommand tag c s) : Host.Outcome State Fault Refusal) = .next (settle s (replied c.code tag st data q)) :=
    fun hrun => congrArg Host.Outcome.next (takeCommand_of_reply hready hrun tag)
  refine ⟨fun st sel => ?reads, fun st sel other v h => getSetting_putSetting_other h v st,
    fun l => by cases l <;> exact ⟨rfl, rfl, rfl, rfl⟩, ⟨rfl, rfl, rfl, rfl, rfl⟩,
    fun setting line persist sel value hsel hpersist => ?write,
    fun setting line persist value h =>
      hreply (c := .writeSetting setting line value persist) (ownerWriteSetting_of_unnamed h value s),
    fun setting line sel h => hreply (c := .readSetting setting line) (ownerReadSetting_of_named h s),
    fun setting line h => hreply (c := .readSetting setting line) (ownerReadSetting_of_unnamed h s),
    settingOf_eq_none_iff, hreply (c := .restoreDefaults) rfl, fun time => hreply (c := .setTime time) rfl,
    hreply (c := .readDeviceStatus) rfl,
    fun rank h => hreply (c := .clearCondition rank) (ownerClearCondition_of_noRank h s),
    fun rank h1 h8 h4 => hreply (c := .clearCondition rank) (ownerClearCondition_of_other h1 h8 h4 s),
    hreply (c := .clearCondition 4) rfl⟩
  case reads =>
    cases sel with
    | toField => exact st.toField.code_eq
    | toCab => exact st.toCab.code_eq
    | _ => rfl
  case write =>
    dsimp only
    rw [hrange]
    obtain ⟨hlo, hhi⟩ := clampSetting_bounds sel value
    exact ⟨getSetting_putSetting_same sel hlo hhi s.settings,
      hreply (c := .writeSetting setting line value persist) (ownerWriteSetting_of_named hsel hpersist value s)⟩

end Sys2Proof.Machine

namespace Sys2Proof.Machine

/-! ## The queue of waiting commands (entry 2)

The queue is the model's own: `step` takes its front, and no operation of the part writes it. One frame lemma for each
operation says so, in the order of the model, up to the command itself. -/

/-- Both branches leave the queue. -/
theorem ite_pending {c : Prop} [Decidable c] {s a b : State} (ha : a.pending = s.pending) (hb : b.pending = s.pending) :
    (if c then a else b).pending = s.pending := by
  split
  · exact ha
  · exact hb

section
variable (l : LineId) (d : Direction) (f : Frame) (s : State)

/-! ### Pulse inputs, ticks and timers of a line -/

theorem takeEdge_pending (e : PulserEdge) : (takeEdge l e s).pending = s.pending := by
  unfold takeEdge
  dsimp only
  split
  · rfl
  · rfl
  · exact ite_pending rfl rfl

theorem takeOverflow_pending : (takeOverflow l s).pending = s.pending := ite_pending rfl rfl

theorem takeTick_pending : (takeTick l s).pending = s.pending := ite_pending (tick_pending l _) rfl

theorem takeNoFlowExpiry_pending : (takeNoFlowExpiry l s).pending = s.pending :=
  ite_pending (enterStopping_pending l _ s) rfl

theorem takeReportExpiry_pending : (takeReportExpiry l s).pending = s.pending := ite_pending rfl rfl

theorem leaveAirHold_pending : (leaveAirHold l s).pending = s.pending := by
  unfold leaveAirHold
  split
  · exact enterState_pending l _ s
  · rfl

theorem takeAirClearExpiry_pending : (takeAirClearExpiry l s).pending = s.pending :=
  ite_pending (leaveAirHold_pending l _) rfl

theorem takeAirHoldExpiry_pending : (takeAirHoldExpiry l s).pending = s.pending :=
  ite_pending (enterStopping_pending l _ s) rfl

theorem takeAirSilenceExpiry_pending : (takeAirSilenceExpiry l s).pending = s.pending :=
  ite_pending (ite_pending rfl rfl) rfl

theorem takeRelockExpiry_pending : (takeRelockExpiry s).pending = s.pending := ite_pending rfl rfl

theorem takeWakeDelayEnd_pending : (takeWakeDelayEnd s).pending = s.pending := ite_pending rfl rfl

/-! ### Valve driver -/

theorem reportCloseFailure_pending : (reportCloseFailure l s).pending = s.pending := by
  unfold reportCloseFailure
  split
  iterate 4 rfl
  exact enterSuspended_pending l _ s

theorem escalate_pending : (escalate l s).pending = s.pending := reportCloseFailure_pending l _

theorem failOpen_pending : (failOpen l s).pending = s.pending := ite_pending (enterSuspended_pending l _ _) rfl

theorem takeValveFrame_pending (data : List Byte) : (takeValveFrame l data s).pending = s.pending := by
  unfold takeValveFrame
  split
  · rfl
  · split
    · rfl
    · exact takeValveStatus_pending l _ s

theorem windowEnds_pending : (windowEnds l s).pending = s.pending :=
  ite_pending (ite_pending rfl (escalate_pending l s)) (ite_pending rfl (failOpen_pending l s))

theorem takeConfirmExpiry_pending : (takeConfirmExpiry l s).pending = s.pending :=
  ite_pending (windowEnds_pending l s) rfl

theorem takeRetryExpiry_pending : (takeRetryExpiry l s).pending = s.pending := ite_pending rfl rfl

/-! ### Field frames -/

theorem takeProbeFrame_pending (data : List Byte) : (takeProbeFrame l data s).pending = s.pending := by
  unfold takeProbeFrame
  split <;> rfl

theorem takeAirFrame_pending (data : List Byte) : (takeAirFrame l data s).pending = s.pending := by
  unfold takeAirFrame
  split
  · rfl
  · exact ite_pending (takeAirPresent_pending l s) (ite_pending rfl rfl)

theorem consume_pending : (consume f s).pending = s.pending := by
  unfold consume
  split
  · rfl
  · exact takeProbeFrame_pending _ s _
  · exact takeAirFrame_pending _ s _
  · exact takeValveFrame_pending _ s _

theorem joinFifo_pending : (joinFifo d f s).pending = s.pending :=
  ite_pending (s.modCounters_pending d _) (by cases d <;> rfl)

theorem forwardFrame_pending : (forwardFrame d f s).pending = s.pending := by
  unfold forwardFrame
  split
  · exact joinFifo_pending d f s
  · exact s.modCounters_pending d _
  · exact s.modCounters_pending d _

theorem takeFieldFrame_pending : (takeFieldFrame f s).pending = s.pending :=
  have hconsume := consume_pending f s
  ite_pending rfl (ite_pending (ite_pending rfl rfl)
    (ite_pending hconsume ((forwardFrame_pending .fieldToCab f _).trans hconsume)))

/-! ### Transmit ports and bus-off -/

theorem sendForwarded_pending : (sendForwarded s).pending = s.pending := by
  refine ite_pending rfl ?_
  dsimp only
  split <;> rfl

theorem takeFieldPort_pending : (takeFieldPort s).pending = s.pending := by
  refine ite_pending rfl ?_
  split
  iterate 3 rfl
  exact sendForwarded_pending s

theorem sendToCab_pending : (sendToCab s).pending = s.pending := by
  unfold sendToCab
  split <;> rfl

theorem takeCabPort_pending : (takeCabPort s).pending = s.pending := by
  refine ite_pending rfl ?_
  split
  · rfl
  · refine ite_pending rfl ?_
    split
    · rfl
    · exact sendToCab_pending s

theorem enterBusOff_pending (k : Link) : (enterBusOff k s).pending = s.pending := by cases k <;> rfl

theorem recoverBusOff_pending (k : Link) : (recoverBusOff k s).pending = s.pending := by
  cases k with
  | cab => rfl
  | field => exact ite_pending rfl rfl

/-! ### Owners of the line commands -/

/-- Both answers leave the queue. -/
theorem ite_answer_pending {c : Prop} [Decidable c] {a b : State × Answer} (ha : a.1.pending = s.pending)
    (hb : b.1.pending = s.pending) : (if c then a else b).1.pending = s.pending := by
  split
  · exact ha
  · exact hb

theorem onLine_pending (n : Nat) {g : LineId → State × Answer} (h : ∀ m, (g m).1.pending = s.pending) :
    (onLine n s g).1.pending = s.pending := by
  unfold onLine
  split
  · rfl
  · exact h _

theorem openDelivery_pending (x : Delivery) : (openDelivery l x s).pending = s.pending := enterState_pending l .armed _

theorem armLine_pending (order c : Nat) : (armLine l order c s).1.pending = s.pending := by
  refine ite_answer_pending s rfl (ite_answer_pending s rfl ?_)
  split
  · rfl
  · refine ite_answer_pending s rfl (ite_answer_pending s rfl ?_)
    split
    · rfl
    · refine ite_answer_pending s rfl (ite_answer_pending s rfl ?_)
      split
      · rfl
      · exact openDelivery_pending l _ _

theorem armFlushLine_pending (c : Nat) : (armFlushLine l c s).1.pending = s.pending := by
  refine ite_answer_pending s rfl (ite_answer_pending s rfl ?_)
  split
  · rfl
  · split
    · rfl
    · refine ite_answer_pending s rfl ?_
      split
      · rfl
      · exact openDelivery_pending l s _

theorem undoArm_pending (x : Delivery) : (undoArm l x s).pending = s.pending := by
  unfold undoArm
  dsimp only
  rw [enterState_pending]
  split <;> rfl

theorem beginFlow_pending (r : ResumeState) : (beginFlow l r s).pending = s.pending :=
  ite_pending (enterAirHold_pending l r s) (enterState_pending l _ s)

theorem startLine_pending (x : Delivery) : (startLine l x s).1.pending = s.pending := by
  unfold startLine
  split
  · rfl
  · exact beginFlow_pending l _ _

theorem resumePaused_pending (x : Delivery) : (resumePaused l x s).1.pending = s.pending := by
  unfold resumePaused
  split
  · rfl
  · exact ite_answer_pending s rfl (beginFlow_pending l _ _)

theorem ownerDisarm_pending (n : Nat) : (ownerDisarm n s).1.pending = s.pending :=
  onLine_pending s n fun m => by
    split
    · exact undoArm_pending m s _
    · rfl

theorem ownerStart_pending (n : Nat) : (ownerStart n s).1.pending = s.pending :=
  onLine_pending s n fun m => by
    split
    · exact startLine_pending m s _
    · rfl

theorem ownerResume_pending (n : Nat) : (ownerResume n s).1.pending = s.pending :=
  onLine_pending s n fun m => by
    split
    · exact enterState_pending m .paused s
    · exact resumePaused_pending m s _
    · rfl

theorem ownerPause_pending (n : Nat) : (ownerPause n s).1.pending = s.pending :=
  onLine_pending s n fun m => by
    split
    iterate 4 exact stopOn_pending m _ s
    rfl

theorem ownerStop_pending (n : Nat) : (ownerStop n s).1.pending = s.pending :=
  onLine_pending s n fun m => by
    split
    iterate 4 exact stopOn_pending m _ s
    · exact enterState_pending m .finished _
    · rfl

/-- Line 1 and then Line 2 stop on one cause, and CLOSE goes to both valves (R79, R194). -/
theorem stopBoth_pending (c : StopCause) (r : PumpReason) :
    (closeBothValves r (stopOn .line2 c (stopOn .line1 c s))).pending = s.pending := by
  rw [closeBothValves_pending, stopOn_pending, stopOn_pending]

theorem ownerEnd_pending (n : Nat) : (ownerEnd n s).1.pending = s.pending :=
  onLine_pending s n fun m => by
    split
    · rfl
    · exact ite_answer_pending s (enterState_pending m .closing _) rfl

/-! ### Owners of the calibration-class commands and of the lock -/

theorem restartRelock_pending : (restartRelock s).pending = s.pending := by rw [restartRelock_eq]

theorem acceptCalibration_pending (item : RecordItem) (old new : CalValue) :
    (acceptCalibration item old new s).pending = s.pending := restartRelock_pending _

theorem ownerWriteCalibrationItem_pending (quoted scope kind band : Nat) (value : BitVec 64) :
    (ownerWriteCalibrationItem quoted scope kind band value s).1.pending = s.pending := by
  refine ite_answer_pending s rfl (ite_answer_pending s rfl (ite_answer_pending s rfl (ite_answer_pending s rfl ?_)))
  split
  · rfl
  · exact ite_answer_pending s rfl (ite_answer_pending s rfl (acceptCalibration_pending s _ _ _))

theorem ownerSetCredential_pending (kind : Nat) (value : BitVec 128) (level : Nat) :
    (ownerSetCredential kind value level s).1.pending = s.pending := by
  refine ite_answer_pending s rfl (ite_answer_pending s rfl (ite_answer_pending s rfl (ite_answer_pending s rfl ?_)))
  split
  · rfl
  · exact ite_answer_pending s rfl (ite_answer_pending s rfl (acceptCalibration_pending s _ _ _))

theorem ownerRemoveLock_pending : (ownerRemoveLock s).1.pending = s.pending :=
  ite_answer_pending s rfl (ite_answer_pending s rfl (ite_answer_pending s rfl
    (ite_answer_pending s rfl (acceptCalibration_pending s _ _ _))))

theorem ownerUnlock_pending (kind : Nat) (value : BitVec 128) : (ownerUnlock kind value s).1.pending = s.pending := by
  refine ite_answer_pending s rfl (ite_answer_pending s rfl ?_)
  split
  · rfl
  · exact ite_answer_pending s rfl (ite_answer_pending s rfl (ite_answer_pending s rfl rfl))

/-! ### The command port -/

/-- The owners without a lemma above answer from the state, or write fields of it other than the queue. -/
theorem runCommand_pending (c : Command) : (runCommand c s).1.pending = s.pending := by
  cases c with
  | arm line order compartment => exact onLine_pending s line fun m => armLine_pending m s order compartment
  | armFlush line compartment => exact onLine_pending s line fun m => armFlushLine_pending m s compartment
  | disarm line => exact ownerDisarm_pending s line
  | start line => exact ownerStart_pending s line
  | pause line => exact ownerPause_pending s line
  | resume line => exact ownerResume_pending s line
  | stop line => exact ownerStop_pending s line
  | endDelivery line => exact ownerEnd_pending s line
  | emergencyStop => exact stopBoth_pending s .emergencyStop .emergencyStop
  | readLineStatus line | readTotalizers line => exact onLine_pending s line fun _ => rfl
  | writeCalibrationItem quoted scope kind band value =>
    exact ownerWriteCalibrationItem_pending s quoted scope kind band value
  | setCredential kind value level => exact ownerSetCredential_pending s kind value level
  | removeLock => exact ownerRemoveLock_pending s
  | unlock kind value => exact ownerUnlock_pending s kind value
  | readJournalState | readCalibrationIdentity | freeze | readForwardingCounters | clearForwardingCounters | setTime
  | restoreDefaults | readDeviceStatus => rfl
  | releaseThrough | restart => exact ite_answer_pending s rfl rfl
  | park | clearCondition => exact ite_answer_pending s rfl (ite_answer_pending s rfl rfl)
  | readRecord =>
    refine ite_answer_pending s rfl (ite_answer_pending s rfl ?_)
    split
    · rfl
    · exact ite_answer_pending s rfl rfl
  | loadOrder =>
    dsimp only [runCommand, ownerLoadOrder]
    split
    · rfl
    · exact ite_answer_pending s rfl (ite_answer_pending s rfl (ite_answer_pending s rfl rfl))
  | loadCompartment =>
    dsimp only [runCommand, ownerLoadCompartment]
    split
    · exact ite_answer_pending s rfl (ite_answer_pending s rfl rfl)
    · rfl
  | removeOrder =>
    dsimp only [runCommand, ownerRemoveOrder]
    split
    · rfl
    · exact ite_answer_pending s rfl rfl
  | _ =>
    dsimp only [runCommand, ownerReadOrder, ownerReadCompartment, ownerReadProduct, ownerReadCalibrationItem, ownerLock,
      ownerWritePassEntry, ownerDeletePassEntry, ownerReadPassEntry, ownerWriteSetting, ownerReadSetting]
    split <;> rfl

theorem decideCommand_pending (code : Nat) (c : Option Command) : (decideCommand code c s).1.pending = s.pending := by
  refine ite_answer_pending s rfl (ite_answer_pending s rfl ?_)
  cases c with
  | none => rfl
  | some x => exact runCommand_pending s x

theorem placeAnswer_pending (code tag : Nat) (a : Answer) : (placeAnswer code tag a s).pending = s.pending := by
  cases a <;> rfl

theorem takeCommandFrame_pending (code tag : Nat) (c : Option Command) :
    (takeCommandFrame code tag c s).pending = s.pending :=
  ite_pending rfl ((placeAnswer_pending _ code tag _).trans (decideCommand_pending s code c))

theorem handleCabFrame_pending : (handleCabFrame f s).pending = s.pending :=
  ite_pending (ite_pending (takeCommandFrame_pending s _ _ _) rfl)
    (ite_pending rfl (forwardFrame_pending .cabToField f s))

theorem receiveCab_pending {s : State} {g : State → State} (h : (g s).pending = s.pending) :
    (receiveCab g s).pending = s.pending :=
  ite_pending rfl (ite_pending rfl (ite_pending rfl (ite_pending rfl h)))

/-! ### Power-on and holdup -/

theorem enterHoldup_pending : (enterHoldup s).pending = s.pending := stopBoth_pending s .powerLoss .powerLoss

theorem takePowerFail_pending : (takePowerFail s).pending = s.pending :=
  ite_pending rfl ((enterHoldup_pending (endPark s)).trans (ite_pending rfl rfl))

theorem itemEffect_pending (sel : ItemSel) : (itemEffect sel s).pending = s.pending := by
  unfold itemEffect
  split <;> rfl

theorem applyRecord_pending (level : Bool) (r : CalibrationRecord) : (applyRecord level r s).pending = s.pending := by
  unfold applyRecord
  dsimp only
  split
  · exact itemEffect_pending _ _
  · rfl
  · rfl

theorem checkRecord_pending (r : JournalRecord) : (checkRecord r s).pending = s.pending := by
  refine ite_pending rfl ?_
  split
  · exact ite_pending (applyRecord_pending s _ _) rfl
  · rfl

theorem checkNewestCalibration_pending : (checkNewestCalibration s).pending = s.pending := by
  unfold checkNewestCalibration
  split
  · rfl
  · exact checkRecord_pending s _

theorem requestRewrite_pending : (requestRewrite s l).pending = s.pending := by rw [requestRewrite_eq]

theorem restore_pending (keep : Bool) : (restore keep s).pending = s.pending := by
  rw [restore, requestRewrites, requestRewrite_pending, requestRewrite_pending]
  exact checkNewestCalibration_pending _

theorem runPowerOn_pending (keep : Bool) : (runPowerOn keep s).pending = s.pending :=
  have hrestore := restore_pending s keep
  ite_pending ((enterHoldup_pending _).trans hrestore) hrestore

theorem takeRelease_pending : (takeRelease s).pending = s.pending :=
  ite_pending rfl (ite_pending (runPowerOn_pending s false) rfl)

/-! ### The completion of transmissions and of writes, and the loss of supply -/

theorem performRestart_pending : (performRestart s).pending = s.pending := by
  refine (runPowerOn_pending _ true).trans ?_
  dsimp only
  rw [tick_pending, tick_pending]

theorem performReset_pending (k : ResetKind) : (performReset k s).pending = s.pending := by
  refine ite_pending ?_ rfl
  cases k with
  | park => exact ite_pending rfl rfl
  | restart => exact performRestart_pending s

theorem countForwarded_pending (x : Transmission) : (countForwarded d x s).pending = s.pending :=
  ite_pending (s.modCounters_pending d _) rfl

theorem performCompletion_pending (x : Transmission) : (performCompletion x s).pending = s.pending := by
  unfold performCompletion
  split
  · rfl
  · exact performReset_pending s _

theorem takeTransmission_pending (k : Link) : (takeTransmission k s).pending = s.pending := by
  unfold takeTransmission
  cases k with
  | field =>
    dsimp only
    split
    · exact countForwarded_pending .cabToField _ _
    · rfl
  | cab =>
    dsimp only
    split
    · exact (performCompletion_pending _ _).trans (countForwarded_pending .fieldToCab _ _)
    · rfl

theorem closeLine_pending : (closeLine l s).pending = s.pending := by
  unfold closeLine
  split
  · rfl
  · dsimp only
    rw [enterState_pending]
    split <;> rfl

theorem answerInFlight_pending (n : Nat) : (answerInFlight n s).pending = s.pending := by
  unfold answerInFlight
  split <;> rfl

theorem reportCompletion_pending (w : JournalWrite) : (reportCompletion w s).pending = s.pending := by
  unfold reportCompletion
  split
  · exact closeLine_pending _ s
  · rw [answerInFlight_pending, restartRelock_pending]
    exact applyRecord_pending s _ _
  · rfl

theorem takeWriteCompletion_pending : (takeWriteCompletion s).pending = s.pending := by
  unfold takeWriteCompletion
  split
  · rfl
  · next w rest _ =>
    have hreport := reportCompletion_pending { s with journal := completeWrite w rest s.journal } w
    exact ite_pending ((runPowerOn_pending _ false).trans hreport) hreport

theorem storeFirstOnly_pending : (storeFirstOnly s).pending = s.pending := by
  unfold storeFirstOnly
  split
  · rfl
  · split <;> rfl

theorem loseSupply_pending (between : Bool) : (loseSupply between s).pending = s.pending :=
  have hstores : (if between then storeFirstOnly s else s).pending = s.pending :=
    ite_pending (storeFirstOnly_pending s) rfl
  ite_pending hstores rfl

end

/-! ### Commands -/

section
variable {s : State}

theorem event_pending {g : State → State} (h : (g s).pending = s.pending) : (event g s).pending = s.pending :=
  ite_pending ((settle_pending s (g s)).trans h) rfl

theorem timedEvent_pending (t : Micros) {g : State → State} (h : ∀ q, (g q).pending = q.pending) :
    (timedEvent t g s).pending = s.pending :=
  event_pending (h (advanceTo t s))

theorem takeCommand_pending (tag : Nat) (c : Command) : (takeCommand tag c s).pending = s.pending :=
  event_pending (receiveCab_pending (takeCommandFrame_pending s _ _ _))

/-- A meaning that ends in a state with the same queue leaves the queue. -/
theorem next_pending {q : State} (h : q.pending = s.pending) (t : State)
    (he : (.next q : Host.Outcome State Fault Refusal) = .next t) : t.pending = s.pending := by
  cases he
  exact h

theorem exec_pending (i : Instr) : ∀ t, exec i s = .next t → t.pending = s.pending := by
  cases i with
  | edgeEvent l e t => exact next_pending (timedEvent_pending t fun q => takeEdge_pending l q e)
  | periodTimerOverflow l t => exact next_pending (timedEvent_pending t (takeOverflow_pending l))
  | meteringTick l t => exact next_pending (timedEvent_pending t (takeTick_pending l))
  | temperatureAgeExpiry l t => exact next_pending (timedEvent_pending t fun _ => rfl)
  | noFlowTimerExpiry l t => exact next_pending (timedEvent_pending t (takeNoFlowExpiry_pending l))
  | airClearTimerExpiry l t => exact next_pending (timedEvent_pending t (takeAirClearExpiry_pending l))
  | airHoldTimerExpiry l t => exact next_pending (timedEvent_pending t (takeAirHoldExpiry_pending l))
  | airSilenceExpiry l t => exact next_pending (timedEvent_pending t (takeAirSilenceExpiry_pending l))
  | reportTimerExpiry l t => exact next_pending (timedEvent_pending t (takeReportExpiry_pending l))
  | relockTimerExpiry t => exact next_pending (timedEvent_pending t takeRelockExpiry_pending)
  | confirmationTimerExpiry l t => exact next_pending (timedEvent_pending t (takeConfirmExpiry_pending l))
  | retryTimerExpiry l t => exact next_pending (timedEvent_pending t (takeRetryExpiry_pending l))
  | wakeDelayEnd t => exact next_pending (timedEvent_pending t takeWakeDelayEnd_pending)
  | fieldFrameArrival f => exact next_pending (event_pending (takeFieldFrame_pending f s))
  | cabFrameArrival f => exact next_pending (event_pending (receiveCab_pending (handleCabFrame_pending f s)))
  | fieldPortTake => exact next_pending (event_pending (takeFieldPort_pending s))
  | cabPortTake => exact next_pending (event_pending (takeCabPort_pending s))
  | transmissionCompletion k => exact next_pending (event_pending (takeTransmission_pending s k))
  | busOff k => exact next_pending (event_pending (enterBusOff_pending s k))
  | busOffRecovery k => exact next_pending (event_pending (recoverBusOff_pending s k))
  | writeCompletion => exact next_pending (event_pending (takeWriteCompletion_pending s))
  | powerFail => exact next_pending (event_pending (s := setFailPin true s) (takePowerFail_pending _))
  | powerFailRelease => exact next_pending (event_pending (s := setFailPin false s) (takeRelease_pending _))
  | supplyFailure between => exact next_pending (loseSupply_pending s between)
  | powerOn => exact next_pending ((settle_pending s _).trans (runPowerOn_pending s false))
  | storageMediumFailure n left => exact next_pending rfl
  | _ => exact next_pending (takeCommand_pending _ _)

/-- The step on a queue with a command at its front. -/
theorem step_of_front {c : Instr} {rest : List Instr} (h : s.pending = c :: rest) :
    step s = exec c { s with pending := rest } := by
  rw [step, h]

end

/-- Settles O1: the queue's front is the command that the step takes. -/
theorem stepRunsFrontCommand : Obligations.StepRunsFrontCommand := by
  unfold Obligations.StepRunsFrontCommand
  intro c rest s
  exact step_of_front rfl

/-- Settles O2: every command's meaning is made of operations that leave the queue. -/
theorem execLeavesQueue : Obligations.ExecLeavesQueue := by
  unfold Obligations.ExecLeavesQueue
  intro c s t he
  exact exec_pending c t he

end Sys2Proof.Machine

namespace Sys2Proof.Machine

-- The joined text compiles close to its memory limit, so these proofs are elaborated one after another.
set_option Elab.async false

/-! ## The state after reset (entry 1) -/

theorem reset_line (l : LineId) : State.reset.line.get l = .powered .factory 0 := by cases l <;> rfl

theorem reset_ctx (l : LineId) : State.reset.ctx l = none := congrArg (·.kept.ctx) (reset_line l)

theorem reset_granted (c : CompartmentNo) : State.reset.compartments[c].granted = none := by
  show (Vector.replicate 6 Compartment.factory)[c].granted = none
  rw [Fin.getElem_fin, Vector.getElem_replicate]
  rfl

/-- A line right after power-on is in IDLE, with no delivery and no timer of its state running (R68, R69, R101). -/
theorem powered_lawful : (Line.powered .factory 0).lawful :=
  ⟨iff_of_true rfl rfl, iff_of_true rfl nofun, absurd rfl, absurd rfl, iff_of_true rfl rfl⟩

theorem reset_contextLaw : ContextLaw .reset :=
  (contextLaw_iff _).mpr ⟨rfl, fun l => (reset_line l).symm ▸ powered_lawful⟩

theorem reset_grantLaw : GrantLaw .reset := by
  refine ⟨reset_contextLaw, fun c l => ?_⟩
  rw [reset_granted, reset_ctx]
  simp

/-- The empty journal serves two lines in IDLE, and holds nothing for a calibration write (R117). -/
theorem reset_journalLaw : JournalLaw .reset := by
  have hflight : ¬State.reset.port.inFlight.isSome = true := Bool.false_ne_true
  refine ⟨reset_contextLaw, Nat.zero_le _, fun l => ?_, Nat.zero_le _, rfl,
    fun _ => iff_of_false Nat.zero_ne_one hflight, fun _ hw => absurd hw List.not_mem_nil⟩
  have hidle : State.reset.lineState l = .idle := congrArg (·.kept.state) (reset_line l)
  rw [hidle]
  exact ⟨rfl, rfl, fun _ hr => absurd hr List.not_mem_nil⟩

/-- Without a K-factor the remainders are 0 (R31). -/
theorem reset_remainderLaw : RemainderLaw .reset :=
  ⟨rfl, fun
    | .line1 => ⟨fun hk => absurd hk (Nat.lt_irrefl 0), fun _ => ⟨rfl, rfl⟩⟩
    | .line2 => ⟨fun hk => absurd hk (Nat.lt_irrefl 0), fun _ => ⟨rfl, rfl⟩⟩⟩

theorem defaults_inRange : Settings.defaults.inRange := by
  simp [Settings.inRange, LineSettings.inRange, Settings.defaults, LineSettings.defaults]

theorem reset_boundsLaw : BoundsLaw .reset := by
  simp [BoundsLaw, Counters.fit, PulseInput.fit, State.reset, Counters.zero, PulseInput.cleared, Line.powered]

/-- Settles O4: after reset no line holds a delivery, no compartment is granted, and the journal and the queues are
empty. -/
theorem resetKeepsTheLaws : Obligations.ResetKeepsTheLaws := by
  unfold Obligations.ResetKeepsTheLaws
  have hvalve : ValveLaw .reset := fun
    | .line1 => ValveRecord.follows_powered _ 0
    | .line2 => ValveRecord.follows_powered _ 0
  exact ⟨hvalve, reset_grantLaw, reset_remainderLaw, ⟨defaults_inRange, defaults_inRange, Nat.zero_le _⟩,
    reset_boundsLaw, ⟨reset_journalLaw, fun _ hw => absurd hw List.not_mem_nil⟩,
    fun _ hr => absurd hr List.not_mem_nil⟩

/-! ## ARM (R46, R62, R69, R71, R72) -/

section
variable {s : State} {l : LineId} {o : Order}

/-- ARM of a calibrated line in IDLE, by the order that it names (R72). -/
theorem armLine_of_idle (hst : s.lineState l = .idle) (hk : (s.cal.lines.get l).k ≠ 0) (order comp : Nat) :
    armLine l order comp s =
      match findOrder s.orders order with
      | none => (s, plain .notFound)
      | some o =>
        if o.bound.isSome then (s, plain .state)
        else if !s.cal.products[o.product].defined then (s, plain .parameter)
        else
          match compartmentOfNumber comp with
          | none => (s, plain .parameter)
          | some c =>
            if s.compartments[c].product ≠ some o.product then (s, plain .productMismatch)
            else if (s.line.get l).kept.hose ≠ .product o.product then (s, plain .hoseProduct)
            else
              match openRefusal s l c .delivery with
              | some st => (s, plain st)
              | none =>
                (openDelivery l (orderDelivery s l o c) { s with orders := bindOrder o.number (some l) s.orders },
                  plain .ok) :=
  (if_neg (not_not.mpr hst)).trans (if_neg hk)

variable {order : Nat} {c : CompartmentNo}

/-- ARM to a waiting order of a defined product, by the compartment that it names (R72). -/
theorem armLine_of_waiting (hst : s.lineState l = .idle) (hk : (s.cal.lines.get l).k ≠ 0)
    (ho : findOrder s.orders order = some o) (hb : o.bound = none) (hdef : s.cal.products[o.product].defined = true) :
    armLine l order (c.val + 1) s =
      if s.compartments[c].product ≠ some o.product then (s, plain .productMismatch)
      else if (s.line.get l).kept.hose ≠ .product o.product then (s, plain .hoseProduct)
      else
        match openRefusal s l c .delivery with
        | some st => (s, plain st)
        | none =>
          (openDelivery l (orderDelivery s l o c) { s with orders := bindOrder o.number (some l) s.orders },
            plain .ok) := by
  rw [armLine_of_idle hst hk]
  simp only [ho, hb, hdef, compartmentOfNumber_succ, Option.isSome_none, Bool.not_true, Bool.false_eq_true, if_false]

/-- The last checks of ARM, on a compartment and a hose with the order's product (R72). -/
theorem armLine_of_matched (hst : s.lineState l = .idle) (hk : (s.cal.lines.get l).k ≠ 0)
    (ho : findOrder s.orders order = some o) (hb : o.bound = none) (hdef : s.cal.products[o.product].defined = true)
    (hp : s.compartments[c].product = some o.product) (hh : (s.line.get l).kept.hose = .product o.product) :
    armLine l order (c.val + 1) s =
      match openRefusal s l c .delivery with
      | some st => (s, plain st)
      | none =>
        (openDelivery l (orderDelivery s l o c) { s with orders := bindOrder o.number (some l) s.orders },
          plain .ok) := by
  rw [armLine_of_waiting hst hk ho hb hdef, if_neg (not_not.mpr hp), if_neg (not_not.mpr hh)]

end

/-- ARM of a line goes out through the ready port. -/
theorem exec_arm_of_line {s q : State} {l : LineId} {order comp : Nat} {st : Status} (h : PortReady s)
    (harm : armLine l order comp s = (q, plain st)) (tag : Nat) :
    exec (.arm tag (lineNumber l) order comp) s = .next (settle s (replied 0x10 tag st [] q)) := by
  refine next_of_plain (c := .arm (lineNumber l) order comp) h ?_ tag
  rw [← harm, runCommand, ownerArm, onLine, lineOfNumber_lineNumber]

/-- Settles O27: the checks of ARM in their order, and the DELIVERY that `openDelivery` opens. -/
theorem armChecksAndOpens : Obligations.ArmChecksAndOpens := by
  unfold Obligations.ArmChecksAndOpens
  refine ⟨fun tag line order comp s h => ?refuses,
    fun tag l o c s h hst hk ho hb hdef hp hh hfree hroom hplace => ?opens⟩
  case opens =>
    have hfree : ¬(s.compartments[c].granted ≠ none ∧ s.compartments[c].granted ≠ some l) := by tauto
    have hplace : canReserve s.journal DeliveryKind.delivery.recordKind = true := hplace
    refine exec_arm_of_line h ?_ tag
    rw [armLine_of_matched hst hk ho hb hdef hp hh, openRefusal_of_free hfree, if_neg (Int.not_le.mpr hroom),
      if_pos hplace]
    rfl
  case refuses =>
    dsimp only
    refine ⟨fun h1 h2 => congrArg Host.Outcome.next (takeCommand_of_noLine h (lineOfNumber_eq_none h1 h2) rfl tag), ?_⟩
    rintro l rfl
    have refuses : ∀ {st}, armLine l order comp s = (s, plain st) →
        exec (.arm tag (lineNumber l) order comp) s = .next (settle s (replied 0x10 tag st [] s)) :=
      fun harm => exec_arm_of_line h harm tag
    refine ⟨fun hst => refuses (if_pos hst), fun hst hk => refuses ?_, fun hst hk => ⟨fun ho => refuses ?_,
      fun o ho => ⟨fun hb => refuses ?_, fun hb hdef => refuses ?_, fun hb hdef => ⟨fun hc => refuses ?_, ?_⟩⟩⟩⟩
    · rw [armLine, if_neg (not_not.mpr hst), if_pos hk]
    · rw [armLine_of_idle hst hk, ho]
    · rw [armLine_of_idle hst hk, ho]
      exact if_pos (Option.isSome_iff_ne_none.mpr hb)
    · rw [armLine_of_idle hst hk, ho]
      simp only [hb, hdef, Option.isSome_none, Bool.not_false, Bool.false_eq_true, if_false, if_true]
    · rw [armLine_of_idle hst hk, ho, compartmentOfNumber_eq_none hc]
      simp only [hb, hdef, Option.isSome_none, Bool.not_true, Bool.false_eq_true, if_false]
    rintro c rfl
    have harm := armLine_of_waiting (c := c) hst hk ho hb hdef
    refine ⟨fun hp => refuses ?_, fun hp hh => refuses ?_, fun hp hh => ?_⟩
    · rw [harm, if_pos hp]
    · rw [harm, if_neg (not_not.mpr hp), if_pos hh]
    have harm := armLine_of_matched hst hk ho hb hdef hp hh
    refine ⟨fun hbusy => refuses ?_, fun hfree hlow => refuses ?_, fun hfree hroom hfull => refuses ?_⟩
    · rw [harm, openRefusal_of_busy hbusy]
    · rw [harm, openRefusal_of_free hfree, if_pos hlow]
    · have hno : ¬canReserve s.journal DeliveryKind.delivery.recordKind = true := Bool.not_eq_true _ ▸ hfull
      rw [harm, openRefusal_of_free hfree, if_neg (Int.not_le.mpr hroom), if_neg hno]

/-! ## LOAD COMPARTMENT, READ COMPARTMENT and READ PRODUCT (R42, R44, R45) -/

/-- What LOAD COMPARTMENT can name as its product: EMPTY, or a defined product (R44, checks 2 and 3). -/
def Loadable (s : State) (product : Nat) : Prop :=
  product = 0 ∨ ∃ p : ProductNo, p.val + 1 = product ∧ s.cal.products[p].defined = true

/-- The volumes that LOAD COMPARTMENT takes with a product (R44, checks 4 and 5). -/
def VolumesFit (product : Nat) (volume reserve : Int) : Prop :=
  0 ≤ volume ∧ volume ≤ 20000000 ∧ (product = 0 → volume = 0) ∧ 0 ≤ reserve ∧ reserve ≤ 1000000

section
variable {s : State} {product : Nat} {volume reserve : Int}

theorem loadedProduct_of_loadable {q : Option ProductNo} (h : Loadable s (productField q)) :
    loadedProduct s (productField q) = some q := by
  cases q with
  | none => rfl
  | some p =>
    have hnumber : productOfNumber (productField (some p)) = some p := productOfNumber_succ p
    obtain h0 | ⟨r, hr, hdef⟩ := h
    · exact absurd h0 (Nat.succ_ne_zero _)
    · obtain rfl : r = p := Fin.ext (Nat.succ.inj hr)
      have h0 : productField (some r) ≠ 0 := Nat.succ_ne_zero _
      rw [loadedProduct, if_neg h0, hnumber]
      exact if_pos hdef

theorem loadedProduct_of_not_loadable (h : ¬Loadable s product) : loadedProduct s product = none := by
  rw [Loadable, not_or] at h
  obtain ⟨h0, hdef⟩ := h
  rw [loadedProduct, if_neg h0]
  cases hp : productOfNumber product with
  | none => rfl
  | some p => exact if_neg fun hd => hdef ⟨p, productOfNumber_eq_some_iff.mp hp, hd⟩

/-- A loadable number is the code of EMPTY or of a product. -/
theorem Loadable.exists_eq (h : Loadable s product) : ∃ q, product = productField q := by
  obtain rfl | ⟨p, rfl, -⟩ := h
  · exact ⟨none, rfl⟩
  · exact ⟨some p, rfl⟩

theorem loadVolumesFit_iff (q : Option ProductNo) :
    loadVolumesFit q volume reserve = true ↔ VolumesFit (productField q) volume reserve := by
  have hempty : q.isSome = true ∨ volume = 0 ↔ (productField q = 0 → volume = 0) := by
    cases q <;> simp [productField]
  simp only [loadVolumesFit, VolumesFit, Bool.and_eq_true, Bool.or_eq_true, decide_eq_true_iff, hempty, and_assoc]

/-! ### The owners -/

theorem ownerReadProduct_of_none (h : product < 1 ∨ 8 < product) :
    ownerReadProduct product s = (s, plain .parameter) := by
  rw [ownerReadProduct, productOfNumber_eq_none h]

theorem ownerReadProduct_of_some (p : ProductNo) :
    ownerReadProduct (p.val + 1) s =
      (s, .reply .ok (yesNo s.cal.products[p].defined ++ b8 s.cal.products[p].alpha ++ b8 s.cal.products[p].beta
        ++ s2 s.cal.products[p].tref ++ b1 s.cal.products[p].basis.code)) := by
  rw [ownerReadProduct, productOfNumber_succ]

variable {comp : Nat}

theorem ownerReadCompartment_of_none (h : comp < 1 ∨ 6 < comp) :
    ownerReadCompartment comp s = (s, plain .parameter) := by
  rw [ownerReadCompartment, compartmentOfNumber_eq_none h]

theorem ownerLoadCompartment_of_none (h : comp < 1 ∨ 6 < comp) :
    ownerLoadCompartment comp product volume reserve s = (s, plain .parameter) := by
  rw [ownerLoadCompartment, compartmentOfNumber_eq_none h]

variable {c : CompartmentNo}

theorem ownerReadCompartment_of_some :
    ownerReadCompartment (c.val + 1) s = (s, .reply .ok (compartmentData s.compartments[c])) := by
  rw [ownerReadCompartment, compartmentOfNumber_succ]

/-- LOAD COMPARTMENT of a loadable product: the volumes first, then the grant (R44). -/
theorem ownerLoadCompartment_of_loadable {q : Option ProductNo} (h : Loadable s (productField q)) :
    ownerLoadCompartment (c.val + 1) (productField q) volume reserve s =
      if !loadVolumesFit q volume reserve then (s, plain .parameter)
      else if s.compartments[c].granted.isSome then (s, plain .state)
      else
        let loaded := { s.compartments[c] with product := q, remaining := volume, reserve := reserve }
        ({ s with compartments := s.compartments.set c loaded }, .reply .ok (compartmentData loaded)) := by
  have hset : ∀ k, (s.compartments.set c k)[c] = k := fun k => Vector.getElem_set_self ..
  simp only [ownerLoadCompartment, compartmentOfNumber_succ, loadedProduct_of_loadable h, State.modCompartment, hset]

theorem ownerLoadCompartment_of_unfit (h : ¬(Loadable s product ∧ VolumesFit product volume reserve)) :
    ownerLoadCompartment (c.val + 1) product volume reserve s = (s, plain .parameter) := by
  by_cases hl : Loadable s product
  · obtain ⟨q, rfl⟩ := hl.exists_eq
    have hfit : ¬loadVolumesFit q volume reserve = true := fun hf => h ⟨hl, (loadVolumesFit_iff q).mp hf⟩
    rw [ownerLoadCompartment_of_loadable hl]
    exact if_pos (by simpa using hfit)
  · rw [ownerLoadCompartment, loadedProduct_of_not_loadable hl, compartmentOfNumber_succ]

theorem ownerLoadCompartment_of_fits {q : Option ProductNo} (h : Loadable s (productField q))
    (hfit : VolumesFit (productField q) volume reserve) :
    ownerLoadCompartment (c.val + 1) (productField q) volume reserve s =
      if s.compartments[c].granted.isSome then (s, plain .state)
      else
        let loaded := { s.compartments[c] with product := q, remaining := volume, reserve := reserve }
        ({ s with compartments := s.compartments.set c loaded }, .reply .ok (compartmentData loaded)) := by
  rw [ownerLoadCompartment_of_loadable h, (loadVolumesFit_iff q).mpr hfit]
  rfl

theorem ownerLoadCompartment_of_granted (h : Loadable s product) (hfit : VolumesFit product volume reserve)
    (hg : s.compartments[c].granted ≠ none) :
    ownerLoadCompartment (c.val + 1) product volume reserve s = (s, plain .state) := by
  obtain ⟨q, rfl⟩ := h.exists_eq
  rw [ownerLoadCompartment_of_fits h hfit]
  exact if_pos (Option.isSome_iff_ne_none.mpr hg)

theorem ownerLoadCompartment_of_free {q : Option ProductNo} (h : Loadable s (productField q))
    (hfit : VolumesFit (productField q) volume reserve) (hg : s.compartments[c].granted = none) :
    ownerLoadCompartment (c.val + 1) (productField q) volume reserve s =
      ({ s with
          compartments := s.compartments.set c
            { s.compartments[c] with product := q, remaining := volume, reserve := reserve } },
        .reply .ok
          (compartmentData { s.compartments[c] with product := q, remaining := volume, reserve := reserve })) := by
  rw [ownerLoadCompartment_of_fits h hfit, hg]
  rfl

end

/-- Settles O35: each owner's answer, by the checks in their order, goes out through the ready port. -/
theorem compartmentAndProductCommands : Obligations.CompartmentAndProductCommands := by
  unfold Obligations.CompartmentAndProductCommands
  intro tag comp product volume reserve s h data loads loadRefused
  have reply {c q st data} (hrun : runCommand c s = (q, .reply st data)) :=
    congrArg (Host.Outcome.next (φ := Fault) (ρ := Refusal)) (takeCommand_of_reply h hrun tag)
  refine ⟨fun hc => ⟨?loadNone, ?readNone⟩, ?productNone, ?product, ?compartment⟩
  case loadNone => exact reply (c := .loadCompartment comp product volume reserve) (ownerLoadCompartment_of_none hc)
  case readNone => exact reply (c := .readCompartment comp) (ownerReadCompartment_of_none hc)
  case productNone => exact fun hp => reply (c := .readProduct product) (ownerReadProduct_of_none hp)
  case product =>
    rintro p rfl
    exact reply (c := .readProduct (p.val + 1)) (ownerReadProduct_of_some p)
  case compartment =>
    rintro c rfl
    intro k volumes named
    refine ⟨?read, ?unfit, ?granted, ?free⟩
    case read => exact reply (c := .readCompartment (c.val + 1)) ownerReadCompartment_of_some
    case unfit =>
      exact fun hno =>
        reply (c := .loadCompartment (c.val + 1) product volume reserve) (ownerLoadCompartment_of_unfit hno)
    case granted =>
      exact fun hn hv hg =>
        reply (c := .loadCompartment (c.val + 1) product volume reserve) (ownerLoadCompartment_of_granted hn hv hg)
    case free =>
      intro q hn hv hg hq
      obtain rfl : product = productField q := hq
      exact reply (c := .loadCompartment (c.val + 1) (productField q) volume reserve)
        (ownerLoadCompartment_of_free hn hv hg)

/-! ## Grants and the deliveries that hold them, along every step (R46, R48, R68, R69, R89, R92, R186, R193) -/

/-- A compartment is granted to the line whose delivery names it, and to no other: the clause of `GrantLaw` (R46). -/
def GrantsAgree (s : State) : Prop :=
  ∀ (c : CompartmentNo) (l : LineId),
    s.compartments[c].granted = some l ↔ ∃ d, s.ctx l = some d ∧ d.compartment = c

theorem grantLaw_iff (s : State) : GrantLaw s ↔ ContextLaw s ∧ GrantsAgree s := Iff.rfl

/-- The compartment that a line's delivery names. -/
def State.held (s : State) (l : LineId) : Option CompartmentNo := (s.ctx l).map (·.compartment)

theorem grantsAgree_iff (s : State) :
    GrantsAgree s ↔ ∀ c l, s.compartments[c].granted = some l ↔ s.held l = some c := by
  simp only [GrantsAgree, State.held, Option.map_eq_some_iff]

/-! ### Updates of one part of the state -/

theorem granted_set (v : Vector Compartment 6) (c b : CompartmentNo) (k : Compartment) :
    (v.set c k)[b].granted = if b = c then k.granted else v[b].granted := by
  rw [Fin.getElem_fin, Fin.getElem_fin, Vector.getElem_set]
  simp only [Fin.ext_iff, eq_comm (a := b.val)]
  split <;> rfl

theorem ite_grantsAgree {p : Prop} [Decidable p] {a b : State} (ha : GrantsAgree a) (hb : GrantsAgree b) :
    GrantsAgree (if p then a else b) := by
  split
  · exact ha
  · exact hb

theorem State.modLine_held (s : State) (l m : LineId) (f : Line → Line) :
    (s.modLine l f).held m = if m = l then (f (s.line.get l)).kept.ctx.map (·.compartment) else s.held m := by
  rw [State.held, State.ctx, State.modLine_line, PerLine.get_set]
  split
  · rfl
  · rfl

section
variable {s : State} (h : GrantsAgree s) (l : LineId)
include h

/-- The grants and the deliveries' compartments stay as they are. -/
theorem grantsAgree_of_eq {t : State}
    (hgranted : ∀ c : CompartmentNo, t.compartments[c].granted = s.compartments[c].granted)
    (hheld : ∀ l, t.held l = s.held l) : GrantsAgree t := by
  rw [grantsAgree_iff] at h ⊢
  intro c l
  rw [hgranted, hheld]
  exact h c l

/-- A change of a line that leaves its delivery's compartment. -/
theorem modLine_grantsAgree {f : Line → Line}
    (hf : ∀ ln, (f ln).kept.ctx.map (·.compartment) = ln.kept.ctx.map (·.compartment) := by exact fun _ => rfl) :
    GrantsAgree (s.modLine l f) := by
  refine grantsAgree_of_eq h (fun _ => rfl) fun m => ?_
  rw [State.modLine_held]
  split
  · next hm => rw [hf, hm]; rfl
  · rfl

theorem modCtx_grantsAgree {f : Delivery → Delivery}
    (hf : ∀ d, (f d).compartment = d.compartment := by exact fun _ => rfl) : GrantsAgree (s.modCtx l f) := by
  refine modLine_grantsAgree h l (f := fun ln => { ln with kept := { ln.kept with ctx := ln.kept.ctx.map f } })
    fun ln => ?_
  rw [Option.map_map]
  exact congrArg (fun g => ln.kept.ctx.map g) (funext hf)

/-- A change of a compartment that leaves its grant. -/
theorem setCompartment_grantsAgree {c : CompartmentNo} {k : Compartment}
    (hk : k.granted = s.compartments[c].granted := by rfl) :
    GrantsAgree { s with compartments := s.compartments.set c k } := by
  refine grantsAgree_of_eq h (fun b => (granted_set ..).trans ?_) fun _ => rfl
  split
  · next hb => rw [hb, hk]
  · rfl

omit l in
theorem modCounters_grantsAgree (d : Direction) (f : Counters → Counters) : GrantsAgree (s.modCounters d f) := by
  cases d <;> exact h

/-! ### Grants and their ends -/

omit h in
theorem ctx_of_set {t : State} {ln : Line} (hline : t.line = s.line.set l ln) (m : LineId) :
    t.ctx m = if m = l then ln.kept.ctx else s.ctx m := by
  rw [State.ctx, hline, PerLine.get_set]
  split
  · rfl
  · rfl

omit h l in
theorem granted_of_set {t : State} {c : CompartmentNo} {k : Compartment}
    (hcomp : t.compartments = s.compartments.set c k) (b : CompartmentNo) :
    t.compartments[b].granted = if b = c then k.granted else s.compartments[b].granted := by
  rw [hcomp, granted_set]

/-- A line without a delivery takes a free compartment with the delivery that names it (R46, R72, R73). -/
theorem grantsAgree_of_taken {t : State} {d : Delivery} {ln : Line} {k : Compartment} (hnone : s.ctx l = none)
    (hfree : s.compartments[d.compartment].granted = none) (hline : t.line = s.line.set l ln)
    (hd : ln.kept.ctx = some d) (hcomp : t.compartments = s.compartments.set d.compartment k)
    (hk : k.granted = some l) : GrantsAgree t := by
  have hnot : ∀ c : CompartmentNo, s.compartments[c].granted ≠ some l := fun c hc => by
    obtain ⟨e, he, -⟩ := (h c l).mp hc
    exact nomatch hnone.symm.trans he
  intro c m
  rw [granted_of_set hcomp, ctx_of_set l hline, hd, hk]
  split
  · next hc =>
    subst hc
    by_cases hm : m = l
    · subst hm
      simp
    · rw [if_neg hm, ← h, hfree]
      simp [Ne.symm hm]
  · next hc =>
    by_cases hm : m = l
    · subst hm
      rw [if_pos rfl]
      exact iff_of_false (hnot c) fun ⟨e, he, hce⟩ => hc (by rw [← hce, Option.some.inj he])
    · rw [if_neg hm]
      exact h c m

/-- A line gives back the compartment with the delivery that names it (R48). -/
theorem grantsAgree_of_released {t : State} {d : Delivery} {ln : Line} {k : Compartment} (hd : s.ctx l = some d)
    (hline : t.line = s.line.set l ln) (hnone : ln.kept.ctx = none)
    (hcomp : t.compartments = s.compartments.set d.compartment k) (hk : k.granted = none) : GrantsAgree t := by
  have howner : s.compartments[d.compartment].granted = some l := (h _ l).mpr ⟨d, hd, rfl⟩
  intro c m
  rw [granted_of_set hcomp, ctx_of_set l hline, hnone, hk]
  by_cases hm : m = l
  · subst hm
    split
    · simp
    · next hc =>
      rw [h, hd]
      simp [Ne.symm hc]
  · rw [if_neg hm]
    split
    · next hc =>
      subst hc
      rw [← h, howner]
      simp [Ne.symm hm]
    · exact h c m

/-! ### Changes of line state (R85, R86, R90, R95, R96) -/

/-- What a stop decides leaves the grants. -/
theorem stopChange_grantsAgree {t : State} (ht : StopChange l s t) (hc : t.compartments = s.compartments) :
    GrantsAgree t := by
  refine grantsAgree_of_eq h (fun _ => by rw [hc]) fun m => ?_
  by_cases hm : m = l
  · have hmap : ∀ x : Option Delivery, x.map (·.compartment) = (x.map Delivery.measured).map (·.compartment) := by
      intro x
      rw [Option.map_map]
      rfl
    rw [hm, State.held, hmap, ht.measured, ← hmap]
    rfl
  · rw [State.held, State.ctx, ht.line m hm]
    rfl

theorem enterState_grantsAgree (st : LineState) : GrantsAgree (enterState l st s) :=
  stopChange_grantsAgree h l (stopChange_enterState (.refl l s) st) (enterState_compartments l st s)

theorem enterStopping_grantsAgree (causes : List StopCause) : GrantsAgree (enterStopping l causes s) :=
  stopChange_grantsAgree h l (stopChange_enterStopping (.refl l s) causes) (enterStopping_compartments l causes s)

theorem enterSuspended_grantsAgree (causes : List StopCause) : GrantsAgree (enterSuspended l causes s) :=
  stopChange_grantsAgree h l (stopChange_enterSuspended (.refl l s) causes) (enterSuspended_compartments l causes s)

theorem completeStopping_grantsAgree : GrantsAgree (completeStopping l s) :=
  stopChange_grantsAgree h l (stopChange_completeStopping (.refl l s)) (completeStopping_compartments l s)

theorem stopOn_grantsAgree (c : StopCause) : GrantsAgree (stopOn l c s) := by
  rw [stopOn_eq]
  exact ite_grantsAgree (enterStopping_grantsAgree h l _) (ite_grantsAgree (modCtx_grantsAgree h l) h)

theorem enterAirHold_grantsAgree (back : ResumeState) : GrantsAgree (enterAirHold l back s) :=
  enterState_grantsAgree (modLine_grantsAgree (modCtx_grantsAgree h l) l) l _

omit l in
theorem closeBothValves_grantsAgree (r : PumpReason) : GrantsAgree (closeBothValves r s) := h

omit l in
theorem stopBoth_grantsAgree (c : StopCause) (r : PumpReason) :
    GrantsAgree (closeBothValves r (stopOn .line2 c (stopOn .line1 c s))) :=
  closeBothValves_grantsAgree (stopOn_grantsAgree (stopOn_grantsAgree h .line1 c) .line2 c) r

/-! ### Ticks, edges and timers -/

/-- Steps 1 to 6 of a tick draw on the compartment and measure the delivery (R35, R49). -/
theorem tickLeft_grantsAgree : GrantsAgree (tickLeft l s) := by
  have hkept : ∀ k : LineCopy, (keptLeft l s k).ctx.map (·.compartment) = k.ctx.map (·.compartment) := fun k => by
    simp only [keptLeft]
    split
    · rfl
    · split <;> (rw [Option.map_map]; rfl)
  have hleft : GrantsAgree { s with compartments := compartmentsLeft l s } := by
    unfold compartmentsLeft
    dsimp only
    split
    · exact h
    · split
      · exact h
      · exact setCompartment_grantsAgree h
  exact modLine_grantsAgree (s := { s.modPulse l takeCounts with compartments := compartmentsLeft l s }) hleft l
    (f := fun ln => { ln with kept := keptLeft l s ln.kept }) fun ln => hkept ln.kept

theorem tick_grantsAgree : GrantsAgree (tick l s) := by
  rw [tick_eq]
  exact stopChange_grantsAgree (tickLeft_grantsAgree h l) l (stopChange_evaluate l _) (evaluate_compartments l _)

omit l in
theorem wakeEvent_grantsAgree : GrantsAgree (wakeEvent s) :=
  grantsAgree_of_eq h (fun _ => rfl) fun | .line1 | .line2 => rfl

theorem takeEdge_grantsAgree (e : PulserEdge) : GrantsAgree (takeEdge l e s) := by
  unfold takeEdge
  dsimp only
  split
  · exact h
  · exact h
  · exact ite_grantsAgree (wakeEvent_grantsAgree h) h

theorem takeOverflow_grantsAgree : GrantsAgree (takeOverflow l s) := ite_grantsAgree h h

theorem takeTick_grantsAgree : GrantsAgree (takeTick l s) :=
  ite_grantsAgree (tick_grantsAgree (modLine_grantsAgree h l) l) h

theorem takeNoFlowExpiry_grantsAgree : GrantsAgree (takeNoFlowExpiry l s) :=
  ite_grantsAgree (enterStopping_grantsAgree h l _) h

theorem takeReportExpiry_grantsAgree : GrantsAgree (takeReportExpiry l s) :=
  have hline : GrantsAgree (s.modLine l fun ln =>
    { ln with report := some (s.awake + s.settings.reportInterval * 1000) }) := modLine_grantsAgree h l
  ite_grantsAgree hline h

theorem leaveAirHold_grantsAgree : GrantsAgree (leaveAirHold l s) := by
  unfold leaveAirHold
  split
  · exact enterState_grantsAgree h l _
  · exact h

theorem takeAirClearExpiry_grantsAgree : GrantsAgree (takeAirClearExpiry l s) :=
  ite_grantsAgree (leaveAirHold_grantsAgree (modLine_grantsAgree h l) l) h

theorem takeAirHoldExpiry_grantsAgree : GrantsAgree (takeAirHoldExpiry l s) :=
  ite_grantsAgree (enterStopping_grantsAgree h l _) h

theorem takeAirSilenceExpiry_grantsAgree : GrantsAgree (takeAirSilenceExpiry l s) :=
  ite_grantsAgree (ite_grantsAgree (modLine_grantsAgree h l) (modLine_grantsAgree h l)) h

/-! ### Valve driver -/

theorem reportCloseFailure_grantsAgree : GrantsAgree (reportCloseFailure l s) := by
  unfold reportCloseFailure
  split
  iterate 3 exact h
  · exact modCtx_grantsAgree h l
  · exact enterSuspended_grantsAgree h l _

theorem escalate_grantsAgree : GrantsAgree (escalate l s) :=
  reportCloseFailure_grantsAgree (s := (placePumpStop .valveFault (some l) s).modValve l _) h l

theorem failOpen_grantsAgree : GrantsAgree (failOpen l s) :=
  have hv : GrantsAgree (s.modValve l _) := h
  ite_grantsAgree (enterSuspended_grantsAgree hv l _) hv

theorem confirmStage_grantsAgree : GrantsAgree (confirmStage l s) :=
  completeStopping_grantsAgree (s := s.modValve l _) h l

theorem takeValveStatus_grantsAgree (p : Position) : GrantsAgree (takeValveStatus l p s) :=
  have hv : GrantsAgree (s.modValve l fun v => { v with reported := some p }) := h
  have hescalate := escalate_grantsAgree hv l
  have hconfirm := confirmStage_grantsAgree hv l
  ite_grantsAgree
    (ite_grantsAgree (ite_grantsAgree hv hescalate) (ite_grantsAgree hconfirm (ite_grantsAgree hescalate hv)))
    (ite_grantsAgree (failOpen_grantsAgree hv l)
      (ite_grantsAgree (ite_grantsAgree hv hv) (ite_grantsAgree hconfirm hv)))

theorem takeValveFrame_grantsAgree (data : List Byte) : GrantsAgree (takeValveFrame l data s) := by
  unfold takeValveFrame
  split
  · exact h
  · split
    · exact h
    · exact takeValveStatus_grantsAgree h l _

theorem takeConfirmExpiry_grantsAgree : GrantsAgree (takeConfirmExpiry l s) :=
  have hwindow : GrantsAgree (windowEnds l s) :=
    ite_grantsAgree (ite_grantsAgree h (escalate_grantsAgree h l)) (ite_grantsAgree h (failOpen_grantsAgree h l))
  ite_grantsAgree hwindow h

theorem takeRetryExpiry_grantsAgree : GrantsAgree (takeRetryExpiry l s) := ite_grantsAgree h h

/-! ### Field frames -/

theorem takeProbeFrame_grantsAgree (data : List Byte) : GrantsAgree (takeProbeFrame l data s) := by
  unfold takeProbeFrame
  split <;> exact modLine_grantsAgree h l

theorem takeAirPresent_grantsAgree : GrantsAgree (takeAirPresent l s) := by
  have hair := modLine_grantsAgree (modLine_grantsAgree h l (f := fun ln =>
    { ln with airSilence := some (s.awake + airSilenceTime), airSilent := false })) l
    (f := fun ln => { ln with airFlag := true, airClear := none })
  have hseen := fun (p : Prop) [Decidable p] => ite_grantsAgree (p := p)
    (modCtx_grantsAgree hair l (f := fun d => { d with flags := { d.flags with airSeen := true } })) hair
  unfold takeAirPresent hearAir
  dsimp only
  split
  · exact enterAirHold_grantsAgree (hseen _) l _
  · exact enterAirHold_grantsAgree (hseen _) l _
  · exact modLine_grantsAgree (hseen _) l
  · exact hseen _

theorem takeAirFrame_grantsAgree (data : List Byte) : GrantsAgree (takeAirFrame l data s) := by
  have hclear : GrantsAgree (takeAirClear l s) := modLine_grantsAgree (modLine_grantsAgree h l) l
  unfold takeAirFrame
  split
  · exact h
  · exact ite_grantsAgree (takeAirPresent_grantsAgree h l) (ite_grantsAgree hclear h)

omit l

theorem consume_grantsAgree (f : Frame) : GrantsAgree (consume f s) := by
  unfold consume
  split
  · exact h
  · exact takeProbeFrame_grantsAgree h _ _
  · exact takeAirFrame_grantsAgree h _ _
  · exact takeValveFrame_grantsAgree h _ _

/-! ### Forwarding and the transmit ports -/

theorem forwardFrame_grantsAgree (d : Direction) (f : Frame) : GrantsAgree (forwardFrame d f s) := by
  unfold forwardFrame joinFifo
  split
  · refine ite_grantsAgree (modCounters_grantsAgree h d _) ?_
    cases d <;> exact h
  · exact modCounters_grantsAgree h d _
  · exact modCounters_grantsAgree h d _

theorem takeFieldFrame_grantsAgree (f : Frame) : GrantsAgree (takeFieldFrame f s) :=
  have hconsume := consume_grantsAgree h f
  ite_grantsAgree h (ite_grantsAgree (ite_grantsAgree h h)
    (ite_grantsAgree hconsume (forwardFrame_grantsAgree hconsume _ f)))

theorem takeFieldPort_grantsAgree : GrantsAgree (takeFieldPort s) := by
  unfold takeFieldPort sendForwarded
  dsimp only [State.modCounters]
  (repeat' split) <;> exact h

theorem takeCabPort_grantsAgree : GrantsAgree (takeCabPort s) := by
  unfold takeCabPort sendToCab
  (repeat' split) <;> exact h

theorem enterBusOff_grantsAgree (k : Link) : GrantsAgree (enterBusOff k s) := by cases k <;> exact h

theorem recoverBusOff_grantsAgree (k : Link) : GrantsAgree (recoverBusOff k s) := by
  cases k with
  | cab => exact h
  | field => exact ite_grantsAgree h h

end

/-! ### ARM, DISARM and the end of CLOSING (R46, R48, R72 to R74, R100) -/

section
variable {s : State} (h : GrantsAgree s) (l : LineId)
include h

/-- ARM and ARM FLUSH grant a free compartment to a line without a delivery (R72, R73). -/
theorem openDelivery_grantsAgree {d : Delivery} (hnone : s.ctx l = none)
    (hfree : s.compartments[d.compartment].granted = none) : GrantsAgree (openDelivery l d s) := by
  unfold openDelivery
  refine enterState_grantsAgree ?_ l .armed
  exact grantsAgree_of_taken h l hnone hfree rfl rfl rfl rfl

theorem undoArm_grantsAgree {d : Delivery} (hd : s.ctx l = some d) : GrantsAgree (undoArm l d s) := by
  rw [undoArm_eq]
  refine enterState_grantsAgree ?_ l .idle
  exact grantsAgree_of_released h l hd rfl rfl rfl rfl

theorem closeLine_grantsAgree : GrantsAgree (closeLine l s) := by
  cases hd : s.ctx l with
  | none =>
    rw [closeLine, hd]
    exact h
  | some d =>
    rw [closeLine_of_some hd]
    refine enterState_grantsAgree ?_ l .idle
    exact grantsAgree_of_released h l hd rfl rfl rfl rfl

/-- END keeps the compartment in the delivery that it completes (R80). -/
theorem endLine_grantsAgree {d : Delivery} (hd : s.ctx l = some d) : GrantsAgree (endLine l d s).1 := by
  have hctx : GrantsAgree (s.modCtx l fun _ => endContext s d) := by
    rw [← State.modCtx_const hd (endContext s)]
    exact modCtx_grantsAgree h l (f := endContext s)
  unfold endLine
  refine enterState_grantsAgree ?_ l .closing
  exact hctx

/-! ### Owners of the line commands -/

theorem beginFlow_grantsAgree (r : ResumeState) : GrantsAgree (beginFlow l r s) :=
  ite_grantsAgree (enterAirHold_grantsAgree h l r) (enterState_grantsAgree h l _)

theorem startLine_grantsAgree (d : Delivery) : GrantsAgree (startLine l d s).1 := by
  unfold startLine
  split
  · exact h
  · exact beginFlow_grantsAgree (modCtx_grantsAgree h l) l _

end

/-- Both answers keep grants and deliveries together. -/
theorem ite_answer_grantsAgree {p : Prop} [Decidable p] {a b : State × Answer} (ha : GrantsAgree a.1)
    (hb : GrantsAgree b.1) : GrantsAgree (if p then a else b).1 := by
  split
  · exact ha
  · exact hb

section
variable {s : State} (h : GrantsAgree s)
include h

theorem resumePaused_grantsAgree (l : LineId) (d : Delivery) : GrantsAgree (resumePaused l d s).1 := by
  unfold resumePaused
  split
  · exact h
  · exact ite_answer_grantsAgree h (beginFlow_grantsAgree (modCtx_grantsAgree h l) l _)

theorem onLine_grantsAgree (n : Nat) {f : LineId → State × Answer} (hf : ∀ l, GrantsAgree (f l).1) :
    GrantsAgree (onLine n s f).1 := by
  unfold onLine
  split
  · exact h
  · exact hf _

/-- The compartment of an ARM is free, where it is not granted to the line itself, which has no delivery (R46, R72). -/
theorem granted_eq_none_of_openRefusal {l : LineId} {c : CompartmentNo} {kind : DeliveryKind} (hnone : s.ctx l = none)
    (hopen : openRefusal s l c kind = none) : s.compartments[c].granted = none := by
  have hbusy : ¬(s.compartments[c].granted ≠ none ∧ s.compartments[c].granted ≠ some l) := fun hb =>
    nomatch (openRefusal_of_busy hb).symm.trans hopen
  by_contra hne
  refine hbusy ⟨hne, fun hl => ?_⟩
  obtain ⟨d, hd, -⟩ := (h c l).mp hl
  exact nomatch hnone.symm.trans hd

section
variable (hidle : ∀ l, s.lineState l = .idle → s.ctx l = none)
include hidle

theorem armLine_grantsAgree (l : LineId) (order comp : Nat) : GrantsAgree (armLine l order comp s).1 := by
  unfold armLine
  split
  · exact h
  · next hst =>
    have hnone := hidle l (not_not.mp hst)
    refine ite_answer_grantsAgree h ?_
    split
    · exact h
    · refine ite_answer_grantsAgree h (ite_answer_grantsAgree h ?_)
      split
      · exact h
      · refine ite_answer_grantsAgree h (ite_answer_grantsAgree h ?_)
        split
        · exact h
        · next hopen =>
          exact openDelivery_grantsAgree (s := { s with orders := bindOrder _ (some l) s.orders }) h l hnone
            (granted_eq_none_of_openRefusal h hnone hopen)

theorem armFlushLine_grantsAgree (l : LineId) (comp : Nat) : GrantsAgree (armFlushLine l comp s).1 := by
  unfold armFlushLine
  split
  · exact h
  · next hst =>
    have hnone := hidle l (not_not.mp hst)
    refine ite_answer_grantsAgree h ?_
    split
    · exact h
    · split
      · exact h
      · refine ite_answer_grantsAgree h ?_
        split
        · exact h
        · next hopen => exact openDelivery_grantsAgree h l hnone (granted_eq_none_of_openRefusal h hnone hopen)

end

theorem ownerDisarm_grantsAgree (n : Nat) : GrantsAgree (ownerDisarm n s).1 :=
  onLine_grantsAgree h n fun l => by
    split
    · next hd => exact undoArm_grantsAgree h l hd
    · exact h

theorem ownerStart_grantsAgree (n : Nat) : GrantsAgree (ownerStart n s).1 :=
  onLine_grantsAgree h n fun l => by
    split
    · exact startLine_grantsAgree h l _
    · exact h

theorem ownerResume_grantsAgree (n : Nat) : GrantsAgree (ownerResume n s).1 :=
  onLine_grantsAgree h n fun l => by
    split
    · exact enterState_grantsAgree h l .paused
    · exact resumePaused_grantsAgree h l _
    · exact h

theorem ownerPause_grantsAgree (n : Nat) : GrantsAgree (ownerPause n s).1 :=
  onLine_grantsAgree h n fun l => by
    split
    iterate 4 exact stopOn_grantsAgree h l _
    exact h

theorem ownerStop_grantsAgree (n : Nat) : GrantsAgree (ownerStop n s).1 :=
  onLine_grantsAgree h n fun l => by
    split
    iterate 4 exact stopOn_grantsAgree h l _
    · exact enterState_grantsAgree (modCtx_grantsAgree h l) l .finished
    · exact h

theorem ownerEnd_grantsAgree (n : Nat) : GrantsAgree (ownerEnd n s).1 :=
  onLine_grantsAgree h n fun l => by
    split
    · exact h
    · next hd => exact ite_answer_grantsAgree (endLine_grantsAgree h l hd) h

theorem ownerLoadCompartment_grantsAgree (comp product : Nat) (volume reserve : Int) :
    GrantsAgree (ownerLoadCompartment comp product volume reserve s).1 := by
  unfold ownerLoadCompartment
  split
  · exact ite_answer_grantsAgree h (ite_answer_grantsAgree h (setCompartment_grantsAgree h))
  · exact h

/-! ### The command port -/

theorem acceptCalibration_grantsAgree (item : RecordItem) (old new : CalValue) :
    GrantsAgree (acceptCalibration item old new s) := by
  rw [acceptCalibration, restartRelock_eq]
  exact h

theorem ownerWriteCalibrationItem_grantsAgree (quoted scope kind band : Nat) (value : BitVec 64) :
    GrantsAgree (ownerWriteCalibrationItem quoted scope kind band value s).1 := by
  refine ite_answer_grantsAgree h (ite_answer_grantsAgree h (ite_answer_grantsAgree h (ite_answer_grantsAgree h ?_)))
  split
  · exact h
  · exact ite_answer_grantsAgree h (ite_answer_grantsAgree h (acceptCalibration_grantsAgree h _ _ _))

theorem ownerSetCredential_grantsAgree (kind : Nat) (value : BitVec 128) (level : Nat) :
    GrantsAgree (ownerSetCredential kind value level s).1 := by
  refine ite_answer_grantsAgree h (ite_answer_grantsAgree h (ite_answer_grantsAgree h (ite_answer_grantsAgree h ?_)))
  split
  · exact h
  · exact ite_answer_grantsAgree h (ite_answer_grantsAgree h (acceptCalibration_grantsAgree h _ _ _))

theorem ownerRemoveLock_grantsAgree : GrantsAgree (ownerRemoveLock s).1 :=
  ite_answer_grantsAgree h (ite_answer_grantsAgree h (ite_answer_grantsAgree h
    (ite_answer_grantsAgree h (acceptCalibration_grantsAgree h _ _ _))))

theorem ownerUnlock_grantsAgree (kind : Nat) (value : BitVec 128) : GrantsAgree (ownerUnlock kind value s).1 := by
  refine ite_answer_grantsAgree h (ite_answer_grantsAgree h ?_)
  split
  · exact h
  · exact ite_answer_grantsAgree h (ite_answer_grantsAgree h (ite_answer_grantsAgree h h))

/-- The owners without a lemma above answer from the state, or write fields of it that no grant reads. -/
theorem runCommand_grantsAgree (hidle : ∀ l, s.lineState l = .idle → s.ctx l = none) (c : Command) :
    GrantsAgree (runCommand c s).1 := by
  cases c with
  | arm line order comp => exact onLine_grantsAgree h line fun l => armLine_grantsAgree h hidle l order comp
  | armFlush line comp => exact onLine_grantsAgree h line fun l => armFlushLine_grantsAgree h hidle l comp
  | disarm line => exact ownerDisarm_grantsAgree h line
  | start line => exact ownerStart_grantsAgree h line
  | pause line => exact ownerPause_grantsAgree h line
  | resume line => exact ownerResume_grantsAgree h line
  | stop line => exact ownerStop_grantsAgree h line
  | endDelivery line => exact ownerEnd_grantsAgree h line
  | emergencyStop => exact stopBoth_grantsAgree h .emergencyStop .emergencyStop
  | readLineStatus line | readTotalizers line => exact onLine_grantsAgree h line fun _ => h
  | loadCompartment comp product volume reserve =>
    exact ownerLoadCompartment_grantsAgree h comp product volume reserve
  | writeCalibrationItem quoted scope kind band value =>
    exact ownerWriteCalibrationItem_grantsAgree h quoted scope kind band value
  | setCredential kind value level => exact ownerSetCredential_grantsAgree h kind value level
  | removeLock => exact ownerRemoveLock_grantsAgree h
  | unlock kind value => exact ownerUnlock_grantsAgree h kind value
  | readJournalState | readCalibrationIdentity | freeze | readForwardingCounters | clearForwardingCounters | setTime
  | restoreDefaults | readDeviceStatus => exact h
  | releaseThrough | restart => exact ite_answer_grantsAgree h h
  | park | clearCondition => exact ite_answer_grantsAgree h (ite_answer_grantsAgree h h)
  | readRecord =>
    refine ite_answer_grantsAgree h (ite_answer_grantsAgree h ?_)
    split
    · exact h
    · exact ite_answer_grantsAgree h h
  | loadOrder =>
    dsimp only [runCommand, ownerLoadOrder]
    split
    · exact h
    · exact ite_answer_grantsAgree h (ite_answer_grantsAgree h (ite_answer_grantsAgree h h))
  | removeOrder =>
    dsimp only [runCommand, ownerRemoveOrder]
    split
    · exact h
    · exact ite_answer_grantsAgree h h
  | _ =>
    dsimp only [runCommand, ownerReadOrder, ownerReadCompartment, ownerReadProduct, ownerReadCalibrationItem, ownerLock,
      ownerWritePassEntry, ownerDeletePassEntry, ownerReadPassEntry, ownerWriteSetting, ownerReadSetting]
    split <;> exact h

theorem placeAnswer_grantsAgree (code tag : Nat) (a : Answer) : GrantsAgree (placeAnswer code tag a s) := by
  cases a <;> exact h

theorem takeCommandFrame_grantsAgree (hidle : ∀ l, s.lineState l = .idle → s.ctx l = none) (code tag : Nat)
    (c : Option Command) : GrantsAgree (takeCommandFrame code tag c s) := by
  have hdecided : GrantsAgree (decideCommand code c s).1 := by
    refine ite_answer_grantsAgree h (ite_answer_grantsAgree h ?_)
    cases c with
    | none => exact h
    | some x => exact runCommand_grantsAgree h hidle x
  exact ite_grantsAgree h (placeAnswer_grantsAgree hdecided code tag _)

theorem handleCabFrame_grantsAgree (hidle : ∀ l, s.lineState l = .idle → s.ctx l = none) (f : Frame) :
    GrantsAgree (handleCabFrame f s) :=
  ite_grantsAgree (ite_grantsAgree (takeCommandFrame_grantsAgree h hidle _ _ _) h)
    (ite_grantsAgree h (forwardFrame_grantsAgree h .cabToField f))

theorem receiveCab_grantsAgree {f : State → State} (hf : GrantsAgree (f s)) : GrantsAgree (receiveCab f s) :=
  ite_grantsAgree h (ite_grantsAgree (wakeEvent_grantsAgree h) (ite_grantsAgree h (ite_grantsAgree h hf)))

/-! ### Power-on, and the completion of writes -/

theorem enterHoldup_grantsAgree : GrantsAgree (enterHoldup s) := stopBoth_grantsAgree h .powerLoss .powerLoss

theorem takePowerFail_grantsAgree : GrantsAgree (takePowerFail s) :=
  have hawake : GrantsAgree (endPark s) := ite_grantsAgree (wakeEvent_grantsAgree h) h
  ite_grantsAgree h (enterHoldup_grantsAgree hawake)

theorem applyRecord_grantsAgree (level : Bool) (r : CalibrationRecord) : GrantsAgree (applyRecord level r s) := by
  unfold applyRecord
  dsimp only
  split
  · next sel _ =>
    have hitem : GrantsAgree (itemEffect sel { s with cal := setItem s.cal sel r.newValue }) := by
      unfold itemEffect
      split
      · exact modLine_grantsAgree (s := { s with cal := setItem s.cal _ r.newValue }) h _
      · exact h
      · exact h
    exact hitem
  · exact h
  · exact h

theorem checkNewestCalibration_grantsAgree : GrantsAgree (checkNewestCalibration s) := by
  unfold checkNewestCalibration
  split
  · exact h
  · refine ite_grantsAgree h ?_
    split
    · exact ite_grantsAgree (applyRecord_grantsAgree h _ _) h
    · exact h

/-- A line comes up with the delivery that its copy holds (R196, R197). -/
theorem restoreVolatile_grantsAgree (hstore : StoreAgrees s) (keep : Bool) : GrantsAgree (restoreVolatile keep s) := by
  refine grantsAgree_of_eq h (fun _ => rfl) fun l => ?_
  have hget : s.store.get l = (s.line.get l).kept := by rw [hstore]; cases l <;> rfl
  rw [State.held, State.ctx, restoreVolatile_line, restoredLine_eq]
  show (if _ then ((s.store.get l).ctx.map _) else _).map _ = ((s.line.get l).kept.ctx).map _
  rw [hget]
  split
  · rw [Option.map_map]
    rfl
  · rfl

theorem requestRewrites_grantsAgree : GrantsAgree (requestRewrites s) := by
  rw [requestRewrites_eq]
  exact h

theorem repairJournal_grantsAgree : GrantsAgree (repairJournal s) := h

theorem restoreLock_grantsAgree : GrantsAgree (restoreLock s) := h

theorem restore_grantsAgree (hstore : StoreAgrees s) (keep : Bool) : GrantsAgree (restore keep s) :=
  requestRewrites_grantsAgree (restoreLock_grantsAgree (checkNewestCalibration_grantsAgree
    (repairJournal_grantsAgree (restoreVolatile_grantsAgree h hstore keep))))

theorem runPowerOn_grantsAgree (hstore : StoreAgrees s) (keep : Bool) : GrantsAgree (runPowerOn keep s) :=
  have hrestored := restore_grantsAgree h hstore keep
  ite_grantsAgree (enterHoldup_grantsAgree hrestored) hrestored

/-- Power-on from the line contexts as they stand (R193). -/
theorem runPowerOn_stored_grantsAgree (keep : Bool) : GrantsAgree (runPowerOn keep { s with store := copies s }) :=
  runPowerOn_grantsAgree (s := { s with store := copies s }) h rfl keep

theorem takeRelease_grantsAgree (hstore : StoreAgrees s) : GrantsAgree (takeRelease s) :=
  ite_grantsAgree h (ite_grantsAgree (runPowerOn_grantsAgree h hstore false) h)

theorem performRestart_grantsAgree : GrantsAgree (performRestart s) :=
  runPowerOn_stored_grantsAgree (tick_grantsAgree (tick_grantsAgree h .line1) .line2) true

theorem takeTransmission_grantsAgree (k : Link) : GrantsAgree (takeTransmission k s) := by
  have hcounted : ∀ {q : State}, GrantsAgree q → ∀ d x, GrantsAgree (countForwarded d x q) := fun hq d _ =>
    ite_grantsAgree (modCounters_grantsAgree hq d _) hq
  unfold takeTransmission
  cases k with
  | field =>
    dsimp only
    split
    · exact hcounted (q := { s with forward := { s.forward with txField := none } }) h _ _
    · exact h
  | cab =>
    dsimp only
    split
    · next x _ _ =>
      have hq := hcounted (q := { s with forward := { s.forward with txCab := none } }) h .fieldToCab x
      unfold performCompletion
      split
      · exact hq
      · refine ite_grantsAgree ?_ hq
        split
        · exact ite_grantsAgree hq hq
        · exact performRestart_grantsAgree hq
    · exact h

theorem reportCompletion_grantsAgree (w : JournalWrite) : GrantsAgree (reportCompletion w s) := by
  unfold reportCompletion
  split
  · exact closeLine_grantsAgree h _
  · rw [restartRelock_eq]
    unfold answerInFlight
    split <;> exact applyRecord_grantsAgree h _ _
  · exact h

theorem takeWriteCompletion_grantsAgree : GrantsAgree (takeWriteCompletion s) := by
  unfold takeWriteCompletion
  split
  · exact h
  · next w rest _ =>
    have hreported := reportCompletion_grantsAgree (s := { s with journal := completeWrite w rest s.journal }) h w
    exact ite_grantsAgree (runPowerOn_stored_grantsAgree hreported false) hreported

theorem loseSupply_grantsAgree (between : Bool) : GrantsAgree (loseSupply between s) := by
  unfold loseSupply storeFirstOnly
  (repeat' split) <;> exact h

/-! ### Commands -/

theorem settle_grantsAgree (before : State) : GrantsAgree (settle before s) := ite_grantsAgree h h

theorem event_grantsAgree {f : State → State} (hf : GrantsAgree (f s)) : GrantsAgree (event f s) :=
  ite_grantsAgree (settle_grantsAgree hf s) h

theorem timedEvent_grantsAgree (t : Micros) {f : State → State} (hf : ∀ {q}, GrantsAgree q → GrantsAgree (f q)) :
    GrantsAgree (timedEvent t f s) := event_grantsAgree h (hf (q := advanceTo t s) h)

theorem takeCommand_grantsAgree (hidle : ∀ l, s.lineState l = .idle → s.ctx l = none) (tag : Nat) (c : Command) :
    GrantsAgree (takeCommand tag c s) :=
  event_grantsAgree h (receiveCab_grantsAgree h (takeCommandFrame_grantsAgree h hidle _ _ _))

theorem exec_grantsAgree (hstore : StoreAgrees s) (hidle : ∀ l, s.lineState l = .idle → s.ctx l = none) {i : Instr}
    {t : State} (he : exec i s = .next t) : GrantsAgree t := by
  cases i <;> injection he with he <;> subst he
  case edgeEvent l e t =>
    exact timedEvent_grantsAgree (s := setLevel l e s) h t fun hq => takeEdge_grantsAgree hq l e
  case periodTimerOverflow l t => exact timedEvent_grantsAgree h t fun hq => takeOverflow_grantsAgree hq l
  case meteringTick l t => exact timedEvent_grantsAgree h t fun hq => takeTick_grantsAgree hq l
  case temperatureAgeExpiry l t => exact timedEvent_grantsAgree h t id
  case noFlowTimerExpiry l t => exact timedEvent_grantsAgree h t fun hq => takeNoFlowExpiry_grantsAgree hq l
  case airClearTimerExpiry l t => exact timedEvent_grantsAgree h t fun hq => takeAirClearExpiry_grantsAgree hq l
  case airHoldTimerExpiry l t => exact timedEvent_grantsAgree h t fun hq => takeAirHoldExpiry_grantsAgree hq l
  case airSilenceExpiry l t => exact timedEvent_grantsAgree h t fun hq => takeAirSilenceExpiry_grantsAgree hq l
  case reportTimerExpiry l t => exact timedEvent_grantsAgree h t fun hq => takeReportExpiry_grantsAgree hq l
  case relockTimerExpiry t => exact timedEvent_grantsAgree h t fun hq => ite_grantsAgree hq hq
  case confirmationTimerExpiry l t => exact timedEvent_grantsAgree h t fun hq => takeConfirmExpiry_grantsAgree hq l
  case retryTimerExpiry l t => exact timedEvent_grantsAgree h t fun hq => takeRetryExpiry_grantsAgree hq l
  case wakeDelayEnd t => exact timedEvent_grantsAgree h t fun hq => ite_grantsAgree hq hq
  case fieldFrameArrival f => exact event_grantsAgree h (takeFieldFrame_grantsAgree h f)
  case cabFrameArrival f =>
    exact event_grantsAgree h (receiveCab_grantsAgree h (handleCabFrame_grantsAgree h hidle f))
  case fieldPortTake => exact event_grantsAgree h (takeFieldPort_grantsAgree h)
  case cabPortTake => exact event_grantsAgree h (takeCabPort_grantsAgree h)
  case transmissionCompletion k => exact event_grantsAgree h (takeTransmission_grantsAgree h k)
  case busOff k => exact event_grantsAgree h (enterBusOff_grantsAgree h k)
  case busOffRecovery k => exact event_grantsAgree h (recoverBusOff_grantsAgree h k)
  case writeCompletion => exact event_grantsAgree h (takeWriteCompletion_grantsAgree h)
  case powerFail => exact event_grantsAgree (s := setFailPin true s) h (takePowerFail_grantsAgree h)
  case powerFailRelease => exact event_grantsAgree (s := setFailPin false s) h (takeRelease_grantsAgree h hstore)
  case supplyFailure between => exact loseSupply_grantsAgree h between
  case powerOn => exact settle_grantsAgree (runPowerOn_grantsAgree h hstore false) s
  case storageMediumFailure n left => exact h
  all_goals exact takeCommand_grantsAgree h hidle _ _

end

/-! ### What a line holds by its state, along every step (R68, R69, R89 to R92, R186)

Quiet changes let each line move within its law, so the acts of the journal are what is left: each brings one line to a
state other than AIR_HOLD, FLOWING and SLOWDOWN, or restores both. -/

/-- Each line holds what its state calls for: `ContextLaw` but for the line context store. -/
def LinesLawful (s : State) : Prop := ∀ l, (s.line.get l).lawful

section
variable {s : State} (h : LinesLawful s)
include h

theorem Quiet.linesLawful {t : State} (hq : Quiet s t) : LinesLawful t := fun l => (hq.moves l).lawful (h l)

/-- A line enters a state in which no timer of its own runs but the report timer, with the delivery that the state calls
for. -/
theorem enterState_linesLawful {l : LineId} {st : LineState} {q : State} {kept : LineCopy}
    (hline : q.line = s.line.set l { s.line.get l with kept := kept }) (hkept : kept.state = s.lineState l)
    (hctx : kept.ctx = none ↔ st = .idle) (hair : st ≠ .airHold) (hflow : st.flows = false) :
    LinesLawful (enterState l st q) := by
  have hreport : kept.state ≠ .idle → (s.line.get l).report ≠ none := fun hne hnone => by
    obtain ⟨-, -, -, -, hr⟩ := h l
    exact hne (hkept.trans (hr.mp hnone))
  intro m
  rw [enterState_eq, hline, PerLine.get_set_same, PerLine.set_set, PerLine.get_set]
  split
  · exact Line.entered_lawful hctx hair hflow hreport _
  · exact h m

theorem endLine_linesLawful {l : LineId} {d : Delivery} (hd : s.ctx l = some d) : LinesLawful (endLine l d s).1 := by
  have hctx : (s.line.get l).kept.ctx = some d := hd
  refine enterState_linesLawful h (st := .closing)
    (kept := { (s.line.get l).kept with ctx := some (endContext s d) }) ?_ rfl (iff_of_false nofun nofun) nofun rfl
  simp only [State.modCtx, State.modKept, State.modLine, hctx, Option.map_some]

theorem closeLine_linesLawful (l : LineId) : LinesLawful (closeLine l s) := by
  cases hd : s.ctx l with
  | none =>
    rw [closeLine, hd]
    exact h
  | some d =>
    rw [closeLine_of_some hd]
    exact enterState_linesLawful h (kept := { (s.line.get l).kept with hose := hoseAfter s l d, ctx := none }) rfl rfl
      (iff_of_true rfl rfl) nofun rfl

/-- The completion of a line's write closes the line, and that of a calibration write lets the lines stay (R100,
R148). -/
theorem completed_linesLawful (w : JournalWrite) (rest : List JournalWrite) : LinesLawful (completed w rest s) := by
  unfold completed reportCompletion
  split
  · exact closeLine_linesLawful (s := { s with journal := completeWrite w rest s.journal }) h _
  · next r _ _ =>
    intro l
    rw [(flightEnds_answerInFlight ..).line]
    exact (completeRecord_moves r _ l).lawful (h l)
  · exact h

/-- Each line comes up in the state that its copy calls for (R196, R197). -/
theorem runPowerOn_linesLawful (hstore : StoreAgrees s) (keep : Bool) : LinesLawful (runPowerOn keep s) := by
  refine Quiet.linesLawful ?_ (quiet_runPowerOn keep s)
  intro l
  have hget : s.store.get l = (s.line.get l).kept := by rw [hstore]; cases l <;> rfl
  rw [restore_eq, requestRewrites_eq]
  refine ((checkedPart_checked keep s).moves l).lawful ?_
  show ((restoreVolatile keep s).line.get l).lawful
  rw [restoreVolatile_line]
  exact restoredLine_lawful hget (h l)

/-- Every command keeps what the lines hold. -/
theorem JournalStep.linesLawful {i : Instr} {t : State} (hstep : JournalStep i s t) (hstore : StoreAgrees s) :
    LinesLawful t := by
  induction hstep with
  | rests => exact h
  | followed _ hq ih => exact hq.linesLawful ih
  | opens l d orders hidle _ =>
    exact enterState_linesLawful h (kept := { (s.line.get l).kept with ctx := some d, unattended := 0 }) rfl rfl
      (iff_of_false nofun nofun) nofun rfl
  | disarms l d _ =>
    rw [undoArm_eq]
    exact enterState_linesLawful h
      (kept := { (s.line.get l).kept with
        ctx := none, unattended := (s.line.get l).kept.unattended + d.unattendedBefore }) rfl rfl
      (iff_of_true rfl rfl) nofun rfl
  | ends l d hd _ => exact endLine_linesLawful h hd
  | releases n => exact h
  | accepts item old new f _ _ _ =>
    rw [acceptCalibration, restartRelock_eq]
    exact h
  | spends => exact h
  | completes w rest _ _ => exact completed_linesLawful h w rest
  | completesAndPowersOn w rest _ _ _ =>
    exact runPowerOn_linesLawful (s := { completed w rest s with store := copies (completed w rest s) })
      (completed_linesLawful h w rest) rfl false
  | powersOn keep q hq hagrees _ => exact runPowerOn_linesLawful (hq.linesLawful h) (hagrees hstore) keep
  | losesSupply between =>
    unfold loseSupply storeFirstOnly
    (repeat' split) <;> exact h
  | damages n left _ => exact h

end

/-! ### Every step -/

theorem step_contextLaw {s t : State} (h : ContextLaw s) (hs : step s = .next t) : ContextLaw t := by
  obtain ⟨hstore, hlines⟩ := (contextLaw_iff s).mp h
  refine (contextLaw_iff t).mpr ⟨step_storeAgrees hstore hs, ?_⟩
  obtain ⟨-, hq⟩ | ⟨i, rest, -, hj⟩ := step_cases hs
  · exact hq.linesLawful hlines
  · exact hj.linesLawful (s := { s with pending := rest }) hlines hstore

theorem idle_grantsAgree {s : State} (h : GrantsAgree s) : GrantsAgree (idle s) := by
  unfold idle
  (repeat' split) <;> exact h

theorem step_grantsAgree {s t : State} (hcontext : ContextLaw s) (h : GrantsAgree s) (hs : step s = .next t) :
    GrantsAgree t := by
  obtain ⟨hstore, hlines⟩ := (contextLaw_iff s).mp hcontext
  have hidle : ∀ l, s.lineState l = .idle → s.ctx l = none := fun l => (hlines l).1.mpr
  unfold step at hs
  split at hs
  · injection hs with hs
    exact hs ▸ idle_grantsAgree h
  · next rest _ => exact exec_grantsAgree (s := { s with pending := rest }) h hstore hidle hs

/-- Settles O56: a line takes a compartment with its delivery and gives it back with it, and every other change of a
line or a compartment leaves both. -/
theorem stepKeepsGrantLaw : Obligations.StepKeepsGrantLaw := by
  unfold Obligations.StepKeepsGrantLaw
  intro s t h hs
  obtain ⟨hcontext, hgrants⟩ := (grantLaw_iff s).mp h
  exact (grantLaw_iff t).mpr ⟨step_contextLaw hcontext hs, step_grantsAgree hcontext hgrants hs⟩

end Sys2Proof.Machine
